-- ==== Sys2Proof/Word.lean ====
section
/-! DEFINITION. Widths of the machine (00_scope.md R6, R10): words, bytes, register numbers, CSR addresses. -/

namespace Sys2Proof

/-- `u32`, a 32-bit pattern (R10). -/
abbrev Word := BitVec 32

/-- A byte of memory (20_memory.md R60). -/
abbrev Byte := BitVec 8

/-- The number of an integer register, a 5-bit field of the word (30_encoding.md R91). -/
abbrev XReg := BitVec 5

/-- The number of a floating-point register, a 5-bit field of the word (30_encoding.md R91). -/
abbrev FReg := BitVec 5

/-- A CSR address, a 12-bit field of the word (30_encoding.md R100). -/
abbrev CsrAddr := BitVec 12

end Sys2Proof
end

