-- ==== Sys2Proof/Syntax.lean ====
section
/-! DEFINITION. Abstract syntax: rounding modes, the `rm` field, and one constructor of `Instr` for each row of
spec/opcode_table.json. Immediates are the 32-bit patterns made at decode time (30_encoding.md R94 to R98). -/

namespace Sys2Proof

/-- The five rounding modes (44_fp_numerics.md R262, R263): 0 RNE, 1 RTZ, 2 RDN, 3 RUP, 4 RMM. -/
inductive RoundingMode where
  | rne
  | rtz
  | rdn
  | rup
  | rmm
  deriving DecidableEq, Repr

/-- The legal values of an `rm` field (R262): a static mode, or 7, dynamic, which takes the mode from `FRM`.
The values 5 and 6 are illegal encodings (D23) and have no term. -/
inductive RmField where
  | static (m : RoundingMode)
  | dyn
  deriving DecidableEq, Repr

/-- The instructions. Operand names are the field names of 30_encoding.md R91 to R100. -/
inductive Instr where
  /-- LUI, R150. -/
  | lui (rd : XReg) (imm : Word)
  /-- AUIPC, R151. -/
  | auipc (rd : XReg) (imm : Word)
  /-- JAL, R152. -/
  | jal (rd : XReg) (imm : Word)
  /-- JALR, R153; `ignored` is the funct3 field, not decoded (R121). -/
  | jalr (rd rs1 : XReg) (imm : Word) (ignored : BitVec 3)
  /-- BEQ, R154. -/
  | beq (rs1 rs2 : XReg) (imm : Word)
  /-- BNE, R155. -/
  | bne (rs1 rs2 : XReg) (imm : Word)
  /-- BLT, R156. -/
  | blt (rs1 rs2 : XReg) (imm : Word)
  /-- BGE, R157. -/
  | bge (rs1 rs2 : XReg) (imm : Word)
  /-- BLTU, R158. -/
  | bltu (rs1 rs2 : XReg) (imm : Word)
  /-- BGEU, R159. -/
  | bgeu (rs1 rs2 : XReg) (imm : Word)
  /-- LB, R160. -/
  | lb (rd rs1 : XReg) (imm : Word)
  /-- LH, R161. -/
  | lh (rd rs1 : XReg) (imm : Word)
  /-- LW, R162. -/
  | lw (rd rs1 : XReg) (imm : Word)
  /-- LBU, R163. -/
  | lbu (rd rs1 : XReg) (imm : Word)
  /-- LHU, R164. -/
  | lhu (rd rs1 : XReg) (imm : Word)
  /-- SB, R165. -/
  | sb (rs1 rs2 : XReg) (imm : Word)
  /-- SH, R166. -/
  | sh (rs1 rs2 : XReg) (imm : Word)
  /-- SW, R167. -/
  | sw (rs1 rs2 : XReg) (imm : Word)
  /-- ADDI, R168. -/
  | addi (rd rs1 : XReg) (imm : Word)
  /-- SLTI, R169. -/
  | slti (rd rs1 : XReg) (imm : Word)
  /-- SLTIU, R170. -/
  | sltiu (rd rs1 : XReg) (imm : Word)
  /-- XORI, R171. -/
  | xori (rd rs1 : XReg) (imm : Word)
  /-- ORI, R172. -/
  | ori (rd rs1 : XReg) (imm : Word)
  /-- ANDI, R173. -/
  | andi (rd rs1 : XReg) (imm : Word)
  /-- SLLI, R174. -/
  | slli (rd rs1 : XReg) (shamt : BitVec 5)
  /-- SRLI, R175. -/
  | srli (rd rs1 : XReg) (shamt : BitVec 5)
  /-- SRAI, R176. -/
  | srai (rd rs1 : XReg) (shamt : BitVec 5)
  /-- ADD, R177. -/
  | add (rd rs1 rs2 : XReg)
  /-- SUB, R178. -/
  | sub (rd rs1 rs2 : XReg)
  /-- SLL, R179. -/
  | sll (rd rs1 rs2 : XReg)
  /-- SLT, R180. -/
  | slt (rd rs1 rs2 : XReg)
  /-- SLTU, R181. -/
  | sltu (rd rs1 rs2 : XReg)
  /-- XOR, R182. -/
  | xor (rd rs1 rs2 : XReg)
  /-- SRL, R183. -/
  | srl (rd rs1 rs2 : XReg)
  /-- SRA, R184. -/
  | sra (rd rs1 rs2 : XReg)
  /-- OR, R185. -/
  | or (rd rs1 rs2 : XReg)
  /-- AND, R186. -/
  | and (rd rs1 rs2 : XReg)
  /-- FENCE, R187; `ignored` is bits 31:7, none of them decoded (R121). -/
  | fence (ignored : BitVec 25)
  /-- ECALL, R188. -/
  | ecall
  /-- EBREAK, R189. -/
  | ebreak
  /-- MUL, R210. -/
  | mul (rd rs1 rs2 : XReg)
  /-- MULH, R211. -/
  | mulh (rd rs1 rs2 : XReg)
  /-- MULHSU, R212. -/
  | mulhsu (rd rs1 rs2 : XReg)
  /-- MULHU, R213. -/
  | mulhu (rd rs1 rs2 : XReg)
  /-- DIV, R214. -/
  | div (rd rs1 rs2 : XReg)
  /-- DIVU, R215. -/
  | divu (rd rs1 rs2 : XReg)
  /-- REM, R216. -/
  | rem (rd rs1 rs2 : XReg)
  /-- REMU, R217. -/
  | remu (rd rs1 rs2 : XReg)
  /-- CSRRW, R235. -/
  | csrrw (rd : XReg) (csr : CsrAddr) (rs1 : XReg)
  /-- CSRRS, R236. -/
  | csrrs (rd : XReg) (csr : CsrAddr) (rs1 : XReg)
  /-- CSRRC, R237. -/
  | csrrc (rd : XReg) (csr : CsrAddr) (rs1 : XReg)
  /-- CSRRWI, R238. -/
  | csrrwi (rd : XReg) (csr : CsrAddr) (uimm : BitVec 5)
  /-- CSRRSI, R239. -/
  | csrrsi (rd : XReg) (csr : CsrAddr) (uimm : BitVec 5)
  /-- CSRRCI, R240. -/
  | csrrci (rd : XReg) (csr : CsrAddr) (uimm : BitVec 5)
  /-- FLW, R301. -/
  | flw (rd : FReg) (rs1 : XReg) (imm : Word)
  /-- FSW, R302. -/
  | fsw (rs1 : XReg) (rs2 : FReg) (imm : Word)
  /-- FMADD.S, R303. -/
  | fmaddS (rd rs1 rs2 rs3 : FReg) (rm : RmField)
  /-- FMSUB.S, R304. -/
  | fmsubS (rd rs1 rs2 rs3 : FReg) (rm : RmField)
  /-- FNMSUB.S, R305. -/
  | fnmsubS (rd rs1 rs2 rs3 : FReg) (rm : RmField)
  /-- FNMADD.S, R306. -/
  | fnmaddS (rd rs1 rs2 rs3 : FReg) (rm : RmField)
  /-- FADD.S, R307. -/
  | faddS (rd rs1 rs2 : FReg) (rm : RmField)
  /-- FSUB.S, R308. -/
  | fsubS (rd rs1 rs2 : FReg) (rm : RmField)
  /-- FMUL.S, R309. -/
  | fmulS (rd rs1 rs2 : FReg) (rm : RmField)
  /-- FDIV.S, R310. -/
  | fdivS (rd rs1 rs2 : FReg) (rm : RmField)
  /-- FSQRT.S, R311. -/
  | fsqrtS (rd rs1 : FReg) (rm : RmField)
  /-- FSGNJ.S, R312. -/
  | fsgnjS (rd rs1 rs2 : FReg)
  /-- FSGNJN.S, R313. -/
  | fsgnjnS (rd rs1 rs2 : FReg)
  /-- FSGNJX.S, R314. -/
  | fsgnjxS (rd rs1 rs2 : FReg)
  /-- FMIN.S, R315. -/
  | fminS (rd rs1 rs2 : FReg)
  /-- FMAX.S, R316. -/
  | fmaxS (rd rs1 rs2 : FReg)
  /-- FCVT.W.S, R317. -/
  | fcvtWS (rd : XReg) (rs1 : FReg) (rm : RmField)
  /-- FCVT.WU.S, R318. -/
  | fcvtWuS (rd : XReg) (rs1 : FReg) (rm : RmField)
  /-- FMV.X.W, R319. -/
  | fmvXW (rd : XReg) (rs1 : FReg)
  /-- FEQ.S, R320. -/
  | feqS (rd : XReg) (rs1 rs2 : FReg)
  /-- FLT.S, R321. -/
  | fltS (rd : XReg) (rs1 rs2 : FReg)
  /-- FLE.S, R322. -/
  | fleS (rd : XReg) (rs1 rs2 : FReg)
  /-- FCLASS.S, R323. -/
  | fclassS (rd : XReg) (rs1 : FReg)
  /-- FCVT.S.W, R324. -/
  | fcvtSW (rd : FReg) (rs1 : XReg) (rm : RmField)
  /-- FCVT.S.WU, R325. -/
  | fcvtSWu (rd : FReg) (rs1 : XReg) (rm : RmField)
  /-- FMV.W.X, R326. -/
  | fmvWX (rd : FReg) (rs1 : XReg)
  deriving DecidableEq, Repr

end Sys2Proof
end

