-- ==== Sys2Proof/WellFormed.lean ====
section
/-! DEFINITION. Which terms of `Instr` an encoding exists for: each immediate is one its format can hold
(30_encoding.md R94 to R98). Register numbers, shamt, uimm, csr_addr and rm are legal by their types. -/

namespace Sys2Proof

namespace WellFormed

/-- `imm_i` and `imm_s`: the sign extension of 12 bits (R94, R95). -/
def imm12 (imm : Word) : Bool := (imm.extractLsb' 0 12).signExtend 32 == imm

/-- `imm_b`: the sign extension of 13 bits, bit 0 zero (R96). -/
def branchImm (imm : Word) : Bool := (imm.extractLsb' 0 13).signExtend 32 == imm && !imm.getLsbD 0

/-- `imm_u`: the low 12 bits are zero (R97). -/
def upperImm (imm : Word) : Bool := imm.extractLsb' 0 12 == 0#12

/-- `imm_j`: the sign extension of 21 bits, bit 0 zero (R98). -/
def jumpImm (imm : Word) : Bool := (imm.extractLsb' 0 21).signExtend 32 == imm && !imm.getLsbD 0

end WellFormed

open WellFormed in
/-- The instruction has an encoding. -/
def Instr.wf : Instr → Bool
  | .lui _ imm => upperImm imm
  | .auipc _ imm => upperImm imm
  | .jal _ imm => jumpImm imm
  | .jalr _ _ imm _ => imm12 imm
  | .beq _ _ imm => branchImm imm
  | .bne _ _ imm => branchImm imm
  | .blt _ _ imm => branchImm imm
  | .bge _ _ imm => branchImm imm
  | .bltu _ _ imm => branchImm imm
  | .bgeu _ _ imm => branchImm imm
  | .lb _ _ imm => imm12 imm
  | .lh _ _ imm => imm12 imm
  | .lw _ _ imm => imm12 imm
  | .lbu _ _ imm => imm12 imm
  | .lhu _ _ imm => imm12 imm
  | .sb _ _ imm => imm12 imm
  | .sh _ _ imm => imm12 imm
  | .sw _ _ imm => imm12 imm
  | .addi _ _ imm => imm12 imm
  | .slti _ _ imm => imm12 imm
  | .sltiu _ _ imm => imm12 imm
  | .xori _ _ imm => imm12 imm
  | .ori _ _ imm => imm12 imm
  | .andi _ _ imm => imm12 imm
  | .slli _ _ _ => true
  | .srli _ _ _ => true
  | .srai _ _ _ => true
  | .add _ _ _ => true
  | .sub _ _ _ => true
  | .sll _ _ _ => true
  | .slt _ _ _ => true
  | .sltu _ _ _ => true
  | .xor _ _ _ => true
  | .srl _ _ _ => true
  | .sra _ _ _ => true
  | .or _ _ _ => true
  | .and _ _ _ => true
  | .fence _ => true
  | .ecall => true
  | .ebreak => true
  | .mul _ _ _ => true
  | .mulh _ _ _ => true
  | .mulhsu _ _ _ => true
  | .mulhu _ _ _ => true
  | .div _ _ _ => true
  | .divu _ _ _ => true
  | .rem _ _ _ => true
  | .remu _ _ _ => true
  | .csrrw _ _ _ => true
  | .csrrs _ _ _ => true
  | .csrrc _ _ _ => true
  | .csrrwi _ _ _ => true
  | .csrrsi _ _ _ => true
  | .csrrci _ _ _ => true
  | .flw _ _ imm => imm12 imm
  | .fsw _ _ imm => imm12 imm
  | .fmaddS _ _ _ _ _ => true
  | .fmsubS _ _ _ _ _ => true
  | .fnmsubS _ _ _ _ _ => true
  | .fnmaddS _ _ _ _ _ => true
  | .faddS _ _ _ _ => true
  | .fsubS _ _ _ _ => true
  | .fmulS _ _ _ _ => true
  | .fdivS _ _ _ _ => true
  | .fsqrtS _ _ _ => true
  | .fsgnjS _ _ _ => true
  | .fsgnjnS _ _ _ => true
  | .fsgnjxS _ _ _ => true
  | .fminS _ _ _ => true
  | .fmaxS _ _ _ => true
  | .fcvtWS _ _ _ => true
  | .fcvtWuS _ _ _ => true
  | .fmvXW _ _ => true
  | .feqS _ _ _ => true
  | .fltS _ _ _ => true
  | .fleS _ _ _ => true
  | .fclassS _ _ => true
  | .fcvtSW _ _ _ => true
  | .fcvtSWu _ _ _ => true
  | .fmvWX _ _ => true

end Sys2Proof
end

