-- ==== Sys2Proof/Decode.lean ====
section
/-! DEFINITION. The decoder (30_encoding.md, 40_decode_dispatch.md), total on every 32-bit word and on every list of bytes, and
after it the encoder, written from the same tables. -/

namespace Sys2Proof

/-- Why a word is no instruction. The spec has one result, `Illegal` (40_decode_dispatch.md R131); the names say which
table cell the walk ended in (log 12). -/
inductive Reject where
  /-- `instr[1:0]` is not `11` (R90, D17). -/
  | lowBits
  /-- An unpopulated cell of the primary table (R101). -/
  | primary
  /-- An unpopulated funct3 cell (R102 to R108, R110). -/
  | funct3
  /-- An unpopulated funct7 cell (R105, R106, R110). -/
  | funct7
  /-- An `rs2` selector that names no instruction (R110, D21). -/
  | rs2
  /-- A format other than single precision in the FMADD family (R109, D22). -/
  | fmt
  /-- A static rounding mode 5 or 6 (D23). -/
  | rm
  /-- A SYSTEM word with funct3 = 0 other than ECALL and EBREAK (R107, D20). -/
  | system
  /-- Fewer than four bytes: no whole word. -/
  | truncated
  deriving DecidableEq, Repr

/-- The result of decoding: an instruction, or a rejection by name. -/
inductive Decoded where
  | ok (i : Instr)
  | rejected (r : Reject)
  deriving DecidableEq, Repr

/-- The instruction-format tag of a leaf (30_encoding.md R91, R111); `illegal` is the tag of the reserved-instruction leaf. -/
inductive Format where
  | r
  | r4
  | i
  | s
  | b
  | u
  | j
  | illegal
  deriving DecidableEq, Repr

/-! ### Fields and immediates of a word (R91 to R100) -/

namespace WordField

/-- `opcode = instr[6:0]` (R91). -/
def opcode (w : Word) : BitVec 7 := w.extractLsb' 0 7
/-- `rd = instr[11:7]` (R91). -/
def rd (w : Word) : BitVec 5 := w.extractLsb' 7 5
/-- `funct3 = instr[14:12]` (R91), also `rm` (R92). -/
def funct3 (w : Word) : BitVec 3 := w.extractLsb' 12 3
/-- `rs1 = instr[19:15]` (R91), also `uimm` (R100). -/
def rs1 (w : Word) : BitVec 5 := w.extractLsb' 15 5
/-- `rs2 = instr[24:20]` (R91), also `shamt` (R99). -/
def rs2 (w : Word) : BitVec 5 := w.extractLsb' 20 5
/-- `funct7 = instr[31:25]` (R91). -/
def funct7 (w : Word) : BitVec 7 := w.extractLsb' 25 7
/-- `rs3 = instr[31:27]` (R91). -/
def rs3 (w : Word) : BitVec 5 := w.extractLsb' 27 5
/-- `fmt = instr[26:25]` (R92). -/
def fmt (w : Word) : BitVec 2 := w.extractLsb' 25 2
/-- `csr_addr = instr[31:20]` (R100). -/
def csr (w : Word) : CsrAddr := w.extractLsb' 20 12
/-- The bits of a MISC-MEM word that are not decoded, `instr[31:7]` (R121). -/
def miscMemBits (w : Word) : BitVec 25 := w.extractLsb' 7 25

/-- `imm_i` (R94). -/
def immI (w : Word) : Word := (w.extractLsb' 20 12).signExtend 32
/-- `imm_s` (R95). -/
def immS (w : Word) : Word := (w.extractLsb' 25 7 ++ w.extractLsb' 7 5).signExtend 32
/-- `imm_b` (R96). -/
def immB (w : Word) : Word :=
  (w.extractLsb' 31 1 ++ w.extractLsb' 7 1 ++ w.extractLsb' 25 6 ++ w.extractLsb' 8 4 ++ 0#1).signExtend 32
/-- `imm_u` (R97). -/
def immU (w : Word) : Word := w.extractLsb' 12 20 ++ 0#12
/-- `imm_j` (R98). -/
def immJ (w : Word) : Word :=
  (w.extractLsb' 31 1 ++ w.extractLsb' 12 8 ++ w.extractLsb' 20 1 ++ w.extractLsb' 21 10 ++ 0#1).signExtend 32

end WordField

/-! ### Rounding modes as bits (R262) -/

/-- The mode a 3-bit value names; 5, 6 and 7 name none. -/
def RoundingMode.ofBits (b : BitVec 3) : Option RoundingMode :=
  match b with
  | 0#3 => some .rne
  | 1#3 => some .rtz
  | 2#3 => some .rdn
  | 3#3 => some .rup
  | 4#3 => some .rmm
  | _ => none

/-- The number of a mode (10_state.md R30). -/
def RoundingMode.bits : RoundingMode → BitVec 3
  | .rne => 0#3
  | .rtz => 1#3
  | .rdn => 2#3
  | .rup => 3#3
  | .rmm => 4#3

/-- The `rm` field a 3-bit value is; 5 and 6 are illegal (D23). -/
def RmField.ofBits (b : BitVec 3) : Option RmField :=
  if b = 7#3 then some .dyn else (RoundingMode.ofBits b).map .static

/-- The bits of an `rm` field. -/
def RmField.bits : RmField → BitVec 3
  | .static m => m.bits
  | .dyn => 7#3

/-! ### The table walk (40_decode_dispatch.md R132), one definition per subtable -/

namespace Decode

open WordField

/-- The leaf of an instruction whose funct3 field is `rm`: illegal for 5 and 6 (D23). -/
def withRm (w : Word) (leaf : RmField → Instr) : Decoded :=
  match RmField.ofBits (funct3 w) with
  | some rm => .ok (leaf rm)
  | none => .rejected .rm

/-- LOAD (R102). -/
def load (w : Word) : Decoded :=
  match funct3 w with
  | 0b000#3 => .ok (.lb (rd w) (rs1 w) (immI w))
  | 0b001#3 => .ok (.lh (rd w) (rs1 w) (immI w))
  | 0b010#3 => .ok (.lw (rd w) (rs1 w) (immI w))
  | 0b100#3 => .ok (.lbu (rd w) (rs1 w) (immI w))
  | 0b101#3 => .ok (.lhu (rd w) (rs1 w) (immI w))
  | _ => .rejected .funct3

/-- STORE (R103). -/
def store (w : Word) : Decoded :=
  match funct3 w with
  | 0b000#3 => .ok (.sb (rs1 w) (rs2 w) (immS w))
  | 0b001#3 => .ok (.sh (rs1 w) (rs2 w) (immS w))
  | 0b010#3 => .ok (.sw (rs1 w) (rs2 w) (immS w))
  | _ => .rejected .funct3

/-- BRANCH (R104). -/
def branch (w : Word) : Decoded :=
  match funct3 w with
  | 0b000#3 => .ok (.beq (rs1 w) (rs2 w) (immB w))
  | 0b001#3 => .ok (.bne (rs1 w) (rs2 w) (immB w))
  | 0b100#3 => .ok (.blt (rs1 w) (rs2 w) (immB w))
  | 0b101#3 => .ok (.bge (rs1 w) (rs2 w) (immB w))
  | 0b110#3 => .ok (.bltu (rs1 w) (rs2 w) (immB w))
  | 0b111#3 => .ok (.bgeu (rs1 w) (rs2 w) (immB w))
  | _ => .rejected .funct3

/-- OP-IMM (R105). -/
def opImm (w : Word) : Decoded :=
  match funct3 w with
  | 0b000#3 => .ok (.addi (rd w) (rs1 w) (immI w))
  | 0b010#3 => .ok (.slti (rd w) (rs1 w) (immI w))
  | 0b011#3 => .ok (.sltiu (rd w) (rs1 w) (immI w))
  | 0b100#3 => .ok (.xori (rd w) (rs1 w) (immI w))
  | 0b110#3 => .ok (.ori (rd w) (rs1 w) (immI w))
  | 0b111#3 => .ok (.andi (rd w) (rs1 w) (immI w))
  | 0b001#3 =>
    match funct7 w with
    | 0b0000000#7 => .ok (.slli (rd w) (rs1 w) (rs2 w))
    | _ => .rejected .funct7
  | 0b101#3 =>
    match funct7 w with
    | 0b0000000#7 => .ok (.srli (rd w) (rs1 w) (rs2 w))
    | 0b0100000#7 => .ok (.srai (rd w) (rs1 w) (rs2 w))
    | _ => .rejected .funct7
  | _ => .rejected .funct3

/-- OP (R106). -/
def op (w : Word) : Decoded :=
  match funct7 w with
  | 0b0000000#7 =>
    match funct3 w with
    | 0b000#3 => .ok (.add (rd w) (rs1 w) (rs2 w))
    | 0b001#3 => .ok (.sll (rd w) (rs1 w) (rs2 w))
    | 0b010#3 => .ok (.slt (rd w) (rs1 w) (rs2 w))
    | 0b011#3 => .ok (.sltu (rd w) (rs1 w) (rs2 w))
    | 0b100#3 => .ok (.xor (rd w) (rs1 w) (rs2 w))
    | 0b101#3 => .ok (.srl (rd w) (rs1 w) (rs2 w))
    | 0b110#3 => .ok (.or (rd w) (rs1 w) (rs2 w))
    | 0b111#3 => .ok (.and (rd w) (rs1 w) (rs2 w))
    | _ => .rejected .funct3
  | 0b0100000#7 =>
    match funct3 w with
    | 0b000#3 => .ok (.sub (rd w) (rs1 w) (rs2 w))
    | 0b101#3 => .ok (.sra (rd w) (rs1 w) (rs2 w))
    | _ => .rejected .funct3
  | 0b0000001#7 =>
    match funct3 w with
    | 0b000#3 => .ok (.mul (rd w) (rs1 w) (rs2 w))
    | 0b001#3 => .ok (.mulh (rd w) (rs1 w) (rs2 w))
    | 0b010#3 => .ok (.mulhsu (rd w) (rs1 w) (rs2 w))
    | 0b011#3 => .ok (.mulhu (rd w) (rs1 w) (rs2 w))
    | 0b100#3 => .ok (.div (rd w) (rs1 w) (rs2 w))
    | 0b101#3 => .ok (.divu (rd w) (rs1 w) (rs2 w))
    | 0b110#3 => .ok (.rem (rd w) (rs1 w) (rs2 w))
    | 0b111#3 => .ok (.remu (rd w) (rs1 w) (rs2 w))
    | _ => .rejected .funct3
  | _ => .rejected .funct7

/-- SYSTEM (R107): for funct3 = 0 the whole word decides. -/
def system (w : Word) : Decoded :=
  match funct3 w with
  | 0b000#3 =>
    if w = 0x00000073#32 then .ok .ecall
    else if w = 0x00100073#32 then .ok .ebreak
    else .rejected .system
  | 0b001#3 => .ok (.csrrw (rd w) (csr w) (rs1 w))
  | 0b010#3 => .ok (.csrrs (rd w) (csr w) (rs1 w))
  | 0b011#3 => .ok (.csrrc (rd w) (csr w) (rs1 w))
  | 0b101#3 => .ok (.csrrwi (rd w) (csr w) (rs1 w))
  | 0b110#3 => .ok (.csrrsi (rd w) (csr w) (rs1 w))
  | 0b111#3 => .ok (.csrrci (rd w) (csr w) (rs1 w))
  | _ => .rejected .funct3

/-- LOAD-FP (R108). -/
def loadFp (w : Word) : Decoded :=
  match funct3 w with
  | 0b010#3 => .ok (.flw (rd w) (rs1 w) (immI w))
  | _ => .rejected .funct3

/-- STORE-FP (R108). -/
def storeFp (w : Word) : Decoded :=
  match funct3 w with
  | 0b010#3 => .ok (.fsw (rs1 w) (rs2 w) (immS w))
  | _ => .rejected .funct3

/-- A cell of the FMADD family (R109): the leaf is given the four registers and the mode. -/
def fused (w : Word) (leaf : FReg → FReg → FReg → FReg → RmField → Instr) : Decoded :=
  match fmt w with
  | 0b00#2 => withRm w (leaf (rd w) (rs1 w) (rs2 w) (rs3 w))
  | _ => .rejected .fmt

/-- A leaf of OP-FP that needs `rs2 = 00000` (R110, D21). -/
def needsRs2Zero (w : Word) (leaf : Decoded) : Decoded :=
  match rs2 w with
  | 0b00000#5 => leaf
  | _ => .rejected .rs2

/-- OP-FP (R110). -/
def opFp (w : Word) : Decoded :=
  match funct7 w with
  | 0b0000000#7 => withRm w (.faddS (rd w) (rs1 w) (rs2 w))
  | 0b0000100#7 => withRm w (.fsubS (rd w) (rs1 w) (rs2 w))
  | 0b0001000#7 => withRm w (.fmulS (rd w) (rs1 w) (rs2 w))
  | 0b0001100#7 => withRm w (.fdivS (rd w) (rs1 w) (rs2 w))
  | 0b0101100#7 => needsRs2Zero w (withRm w (.fsqrtS (rd w) (rs1 w)))
  | 0b0010000#7 =>
    match funct3 w with
    | 0b000#3 => .ok (.fsgnjS (rd w) (rs1 w) (rs2 w))
    | 0b001#3 => .ok (.fsgnjnS (rd w) (rs1 w) (rs2 w))
    | 0b010#3 => .ok (.fsgnjxS (rd w) (rs1 w) (rs2 w))
    | _ => .rejected .funct3
  | 0b0010100#7 =>
    match funct3 w with
    | 0b000#3 => .ok (.fminS (rd w) (rs1 w) (rs2 w))
    | 0b001#3 => .ok (.fmaxS (rd w) (rs1 w) (rs2 w))
    | _ => .rejected .funct3
  | 0b1100000#7 =>
    match rs2 w with
    | 0b00000#5 => withRm w (.fcvtWS (rd w) (rs1 w))
    | 0b00001#5 => withRm w (.fcvtWuS (rd w) (rs1 w))
    | _ => .rejected .rs2
  | 0b1110000#7 =>
    match funct3 w with
    | 0b000#3 => needsRs2Zero w (.ok (.fmvXW (rd w) (rs1 w)))
    | 0b001#3 => needsRs2Zero w (.ok (.fclassS (rd w) (rs1 w)))
    | _ => .rejected .funct3
  | 0b1010000#7 =>
    match funct3 w with
    | 0b010#3 => .ok (.feqS (rd w) (rs1 w) (rs2 w))
    | 0b001#3 => .ok (.fltS (rd w) (rs1 w) (rs2 w))
    | 0b000#3 => .ok (.fleS (rd w) (rs1 w) (rs2 w))
    | _ => .rejected .funct3
  | 0b1101000#7 =>
    match rs2 w with
    | 0b00000#5 => withRm w (.fcvtSW (rd w) (rs1 w))
    | 0b00001#5 => withRm w (.fcvtSWu (rd w) (rs1 w))
    | _ => .rejected .rs2
  | 0b1111000#7 =>
    match funct3 w with
    | 0b000#3 => needsRs2Zero w (.ok (.fmvWX (rd w) (rs1 w)))
    | _ => .rejected .funct3
  | _ => .rejected .funct7

end Decode

open WordField in
/-- The decoder (R130): a total function of the word. The primary table is R101. -/
def decode (w : Word) : Decoded :=
  match opcode w with
  | 0x03#7 => Decode.load w
  | 0x07#7 => Decode.loadFp w
  | 0x0F#7 => .ok (.fence (miscMemBits w))
  | 0x13#7 => Decode.opImm w
  | 0x17#7 => .ok (.auipc (rd w) (immU w))
  | 0x23#7 => Decode.store w
  | 0x27#7 => Decode.storeFp w
  | 0x33#7 => Decode.op w
  | 0x37#7 => .ok (.lui (rd w) (immU w))
  | 0x43#7 => Decode.fused w .fmaddS
  | 0x47#7 => Decode.fused w .fmsubS
  | 0x4B#7 => Decode.fused w .fnmsubS
  | 0x4F#7 => Decode.fused w .fnmaddS
  | 0x53#7 => Decode.opFp w
  | 0x63#7 => Decode.branch w
  | 0x67#7 => .ok (.jalr (rd w) (rs1 w) (immI w) (funct3 w))
  | 0x6F#7 => .ok (.jal (rd w) (immJ w))
  | 0x73#7 => Decode.system w
  | _ => if w.extractLsb' 0 2 = 0b11#2 then .rejected .primary else .rejected .lowBits

/-- A word from its four bytes, the byte at the lowest address first (R90, 20_memory.md R68). -/
def wordOfBytes (b0 b1 b2 b3 : Byte) : Word := b3 ++ b2 ++ b1 ++ b0

/-- The four bytes of a word, the one at the lowest address first. -/
def bytesOfWord (w : Word) : List Byte :=
  [w.extractLsb' 0 8, w.extractLsb' 8 8, w.extractLsb' 16 8, w.extractLsb' 24 8]

/-- Decoding from bytes: the instruction of the first four, and the bytes after them. -/
def decodeBytes : List Byte → Decoded × List Byte
  | b0 :: b1 :: b2 :: b3 :: rest => (decode (wordOfBytes b0 b1 b2 b3), rest)
  | short => (.rejected .truncated, short)

/-- The instruction read from the word whose low `nbits` bits are `w`, the bits above zero, laid out in memory order. -/
def decodeTableWord (nbits w : Nat) : Option Instr :=
  match (decodeBytes (bytesOfWord (BitVec.ofNat 32 (w % 2 ^ nbits)))).1 with
  | .ok i => some i
  | .rejected _ => none

/-! ### The encoder -/

namespace Encode

/-- R format (R93). -/
def rFmt (funct7 : BitVec 7) (rs2 rs1 : BitVec 5) (funct3 : BitVec 3) (rd : BitVec 5) (opcode : BitVec 7) : Word :=
  funct7 ++ rs2 ++ rs1 ++ funct3 ++ rd ++ opcode

/-- R4 format, single precision (R93, R109). -/
def r4Fmt (rs3 rs2 rs1 : BitVec 5) (rm : BitVec 3) (rd : BitVec 5) (opcode : BitVec 7) : Word :=
  rs3 ++ 0b00#2 ++ rs2 ++ rs1 ++ rm ++ rd ++ opcode

/-- I format with a 12-bit field (R93): an immediate's low bits, or a CSR address. -/
def iFmt (field : BitVec 12) (rs1 : BitVec 5) (funct3 : BitVec 3) (rd : BitVec 5) (opcode : BitVec 7) : Word :=
  field ++ rs1 ++ funct3 ++ rd ++ opcode

/-- I format with an immediate (R94). -/
def iImm (imm : Word) (rs1 : BitVec 5) (funct3 : BitVec 3) (rd : BitVec 5) (opcode : BitVec 7) : Word :=
  iFmt (imm.extractLsb' 0 12) rs1 funct3 rd opcode

/-- S format (R95). -/
def sFmt (imm : Word) (rs2 rs1 : BitVec 5) (funct3 : BitVec 3) (opcode : BitVec 7) : Word :=
  imm.extractLsb' 5 7 ++ rs2 ++ rs1 ++ funct3 ++ imm.extractLsb' 0 5 ++ opcode

/-- B format (R96). -/
def bFmt (imm : Word) (rs2 rs1 : BitVec 5) (funct3 : BitVec 3) (opcode : BitVec 7) : Word :=
  imm.extractLsb' 12 1 ++ imm.extractLsb' 5 6 ++ rs2 ++ rs1 ++ funct3 ++ imm.extractLsb' 1 4 ++ imm.extractLsb' 11 1 ++ opcode

/-- U format (R97). -/
def uFmt (imm : Word) (rd : BitVec 5) (opcode : BitVec 7) : Word :=
  imm.extractLsb' 12 20 ++ rd ++ opcode

/-- J format (R98). -/
def jFmt (imm : Word) (rd : BitVec 5) (opcode : BitVec 7) : Word :=
  imm.extractLsb' 20 1 ++ imm.extractLsb' 1 10 ++ imm.extractLsb' 11 1 ++ imm.extractLsb' 12 8 ++ rd ++ opcode

end Encode

open Encode in
/-- The word of a well-formed instruction. -/
def encode : Instr → Word
  | .lui rd imm => uFmt imm rd 0x37#7
  | .auipc rd imm => uFmt imm rd 0x17#7
  | .jal rd imm => jFmt imm rd 0x6F#7
  | .jalr rd rs1 imm ignored => iImm imm rs1 ignored rd 0x67#7
  | .beq rs1 rs2 imm => bFmt imm rs2 rs1 0b000#3 0x63#7
  | .bne rs1 rs2 imm => bFmt imm rs2 rs1 0b001#3 0x63#7
  | .blt rs1 rs2 imm => bFmt imm rs2 rs1 0b100#3 0x63#7
  | .bge rs1 rs2 imm => bFmt imm rs2 rs1 0b101#3 0x63#7
  | .bltu rs1 rs2 imm => bFmt imm rs2 rs1 0b110#3 0x63#7
  | .bgeu rs1 rs2 imm => bFmt imm rs2 rs1 0b111#3 0x63#7
  | .lb rd rs1 imm => iImm imm rs1 0b000#3 rd 0x03#7
  | .lh rd rs1 imm => iImm imm rs1 0b001#3 rd 0x03#7
  | .lw rd rs1 imm => iImm imm rs1 0b010#3 rd 0x03#7
  | .lbu rd rs1 imm => iImm imm rs1 0b100#3 rd 0x03#7
  | .lhu rd rs1 imm => iImm imm rs1 0b101#3 rd 0x03#7
  | .sb rs1 rs2 imm => sFmt imm rs2 rs1 0b000#3 0x23#7
  | .sh rs1 rs2 imm => sFmt imm rs2 rs1 0b001#3 0x23#7
  | .sw rs1 rs2 imm => sFmt imm rs2 rs1 0b010#3 0x23#7
  | .addi rd rs1 imm => iImm imm rs1 0b000#3 rd 0x13#7
  | .slti rd rs1 imm => iImm imm rs1 0b010#3 rd 0x13#7
  | .sltiu rd rs1 imm => iImm imm rs1 0b011#3 rd 0x13#7
  | .xori rd rs1 imm => iImm imm rs1 0b100#3 rd 0x13#7
  | .ori rd rs1 imm => iImm imm rs1 0b110#3 rd 0x13#7
  | .andi rd rs1 imm => iImm imm rs1 0b111#3 rd 0x13#7
  | .slli rd rs1 shamt => rFmt 0b0000000#7 shamt rs1 0b001#3 rd 0x13#7
  | .srli rd rs1 shamt => rFmt 0b0000000#7 shamt rs1 0b101#3 rd 0x13#7
  | .srai rd rs1 shamt => rFmt 0b0100000#7 shamt rs1 0b101#3 rd 0x13#7
  | .add rd rs1 rs2 => rFmt 0b0000000#7 rs2 rs1 0b000#3 rd 0x33#7
  | .sub rd rs1 rs2 => rFmt 0b0100000#7 rs2 rs1 0b000#3 rd 0x33#7
  | .sll rd rs1 rs2 => rFmt 0b0000000#7 rs2 rs1 0b001#3 rd 0x33#7
  | .slt rd rs1 rs2 => rFmt 0b0000000#7 rs2 rs1 0b010#3 rd 0x33#7
  | .sltu rd rs1 rs2 => rFmt 0b0000000#7 rs2 rs1 0b011#3 rd 0x33#7
  | .xor rd rs1 rs2 => rFmt 0b0000000#7 rs2 rs1 0b100#3 rd 0x33#7
  | .srl rd rs1 rs2 => rFmt 0b0000000#7 rs2 rs1 0b101#3 rd 0x33#7
  | .sra rd rs1 rs2 => rFmt 0b0100000#7 rs2 rs1 0b101#3 rd 0x33#7
  | .or rd rs1 rs2 => rFmt 0b0000000#7 rs2 rs1 0b110#3 rd 0x33#7
  | .and rd rs1 rs2 => rFmt 0b0000000#7 rs2 rs1 0b111#3 rd 0x33#7
  | .fence ignored => ignored ++ 0x0F#7
  | .ecall => 0x00000073#32
  | .ebreak => 0x00100073#32
  | .mul rd rs1 rs2 => rFmt 0b0000001#7 rs2 rs1 0b000#3 rd 0x33#7
  | .mulh rd rs1 rs2 => rFmt 0b0000001#7 rs2 rs1 0b001#3 rd 0x33#7
  | .mulhsu rd rs1 rs2 => rFmt 0b0000001#7 rs2 rs1 0b010#3 rd 0x33#7
  | .mulhu rd rs1 rs2 => rFmt 0b0000001#7 rs2 rs1 0b011#3 rd 0x33#7
  | .div rd rs1 rs2 => rFmt 0b0000001#7 rs2 rs1 0b100#3 rd 0x33#7
  | .divu rd rs1 rs2 => rFmt 0b0000001#7 rs2 rs1 0b101#3 rd 0x33#7
  | .rem rd rs1 rs2 => rFmt 0b0000001#7 rs2 rs1 0b110#3 rd 0x33#7
  | .remu rd rs1 rs2 => rFmt 0b0000001#7 rs2 rs1 0b111#3 rd 0x33#7
  | .csrrw rd csr rs1 => iFmt csr rs1 0b001#3 rd 0x73#7
  | .csrrs rd csr rs1 => iFmt csr rs1 0b010#3 rd 0x73#7
  | .csrrc rd csr rs1 => iFmt csr rs1 0b011#3 rd 0x73#7
  | .csrrwi rd csr uimm => iFmt csr uimm 0b101#3 rd 0x73#7
  | .csrrsi rd csr uimm => iFmt csr uimm 0b110#3 rd 0x73#7
  | .csrrci rd csr uimm => iFmt csr uimm 0b111#3 rd 0x73#7
  | .flw rd rs1 imm => iImm imm rs1 0b010#3 rd 0x07#7
  | .fsw rs1 rs2 imm => sFmt imm rs2 rs1 0b010#3 0x27#7
  | .fmaddS rd rs1 rs2 rs3 rm => r4Fmt rs3 rs2 rs1 rm.bits rd 0x43#7
  | .fmsubS rd rs1 rs2 rs3 rm => r4Fmt rs3 rs2 rs1 rm.bits rd 0x47#7
  | .fnmsubS rd rs1 rs2 rs3 rm => r4Fmt rs3 rs2 rs1 rm.bits rd 0x4B#7
  | .fnmaddS rd rs1 rs2 rs3 rm => r4Fmt rs3 rs2 rs1 rm.bits rd 0x4F#7
  | .faddS rd rs1 rs2 rm => rFmt 0b0000000#7 rs2 rs1 rm.bits rd 0x53#7
  | .fsubS rd rs1 rs2 rm => rFmt 0b0000100#7 rs2 rs1 rm.bits rd 0x53#7
  | .fmulS rd rs1 rs2 rm => rFmt 0b0001000#7 rs2 rs1 rm.bits rd 0x53#7
  | .fdivS rd rs1 rs2 rm => rFmt 0b0001100#7 rs2 rs1 rm.bits rd 0x53#7
  | .fsqrtS rd rs1 rm => rFmt 0b0101100#7 0b00000#5 rs1 rm.bits rd 0x53#7
  | .fsgnjS rd rs1 rs2 => rFmt 0b0010000#7 rs2 rs1 0b000#3 rd 0x53#7
  | .fsgnjnS rd rs1 rs2 => rFmt 0b0010000#7 rs2 rs1 0b001#3 rd 0x53#7
  | .fsgnjxS rd rs1 rs2 => rFmt 0b0010000#7 rs2 rs1 0b010#3 rd 0x53#7
  | .fminS rd rs1 rs2 => rFmt 0b0010100#7 rs2 rs1 0b000#3 rd 0x53#7
  | .fmaxS rd rs1 rs2 => rFmt 0b0010100#7 rs2 rs1 0b001#3 rd 0x53#7
  | .fcvtWS rd rs1 rm => rFmt 0b1100000#7 0b00000#5 rs1 rm.bits rd 0x53#7
  | .fcvtWuS rd rs1 rm => rFmt 0b1100000#7 0b00001#5 rs1 rm.bits rd 0x53#7
  | .fmvXW rd rs1 => rFmt 0b1110000#7 0b00000#5 rs1 0b000#3 rd 0x53#7
  | .feqS rd rs1 rs2 => rFmt 0b1010000#7 rs2 rs1 0b010#3 rd 0x53#7
  | .fltS rd rs1 rs2 => rFmt 0b1010000#7 rs2 rs1 0b001#3 rd 0x53#7
  | .fleS rd rs1 rs2 => rFmt 0b1010000#7 rs2 rs1 0b000#3 rd 0x53#7
  | .fclassS rd rs1 => rFmt 0b1110000#7 0b00000#5 rs1 0b001#3 rd 0x53#7
  | .fcvtSW rd rs1 rm => rFmt 0b1101000#7 0b00000#5 rs1 rm.bits rd 0x53#7
  | .fcvtSWu rd rs1 rm => rFmt 0b1101000#7 0b00001#5 rs1 rm.bits rd 0x53#7
  | .fmvWX rd rs1 => rFmt 0b1111000#7 0b00000#5 rs1 0b000#3 rd 0x53#7

/-- The bytes of an instruction in memory, the one at the lowest address first. -/
def encodeBytes (i : Instr) : List Byte := bytesOfWord (encode i)

/-! ### The opcode table (spec/opcode_table.json), the normative statement of decode (40_decode_dispatch.md R133) -/

/-- A row of the opcode table: mnemonic, format tag, mask, match, and whether the row constrains the `rm` field to {0, 1, 2, 3, 4, 7}. -/
structure OpcodeRow where
  mnemonic : String
  format : Format
  mask : Word
  pattern : Word
  hasRm : Bool
  deriving DecidableEq, Repr

/-- The word is one of the row's: its fixed bits agree, and its `rm` constraint holds. -/
def OpcodeRow.covers (r : OpcodeRow) (w : Word) : Bool :=
  w &&& r.mask == r.pattern && (!r.hasRm || (WordField.funct3 w != 5#3 && WordField.funct3 w != 6#3))

namespace OpcodeTable

/-- RV32I rows. -/
def base : List OpcodeRow := [
  ⟨"LUI", .u, 0x0000007F#32, 0x00000037#32, false⟩,
  ⟨"AUIPC", .u, 0x0000007F#32, 0x00000017#32, false⟩,
  ⟨"JAL", .j, 0x0000007F#32, 0x0000006F#32, false⟩,
  ⟨"JALR", .i, 0x0000007F#32, 0x00000067#32, false⟩,
  ⟨"BEQ", .b, 0x0000707F#32, 0x00000063#32, false⟩,
  ⟨"BNE", .b, 0x0000707F#32, 0x00001063#32, false⟩,
  ⟨"BLT", .b, 0x0000707F#32, 0x00004063#32, false⟩,
  ⟨"BGE", .b, 0x0000707F#32, 0x00005063#32, false⟩,
  ⟨"BLTU", .b, 0x0000707F#32, 0x00006063#32, false⟩,
  ⟨"BGEU", .b, 0x0000707F#32, 0x00007063#32, false⟩,
  ⟨"LB", .i, 0x0000707F#32, 0x00000003#32, false⟩,
  ⟨"LH", .i, 0x0000707F#32, 0x00001003#32, false⟩,
  ⟨"LW", .i, 0x0000707F#32, 0x00002003#32, false⟩,
  ⟨"LBU", .i, 0x0000707F#32, 0x00004003#32, false⟩,
  ⟨"LHU", .i, 0x0000707F#32, 0x00005003#32, false⟩,
  ⟨"SB", .s, 0x0000707F#32, 0x00000023#32, false⟩,
  ⟨"SH", .s, 0x0000707F#32, 0x00001023#32, false⟩,
  ⟨"SW", .s, 0x0000707F#32, 0x00002023#32, false⟩,
  ⟨"ADDI", .i, 0x0000707F#32, 0x00000013#32, false⟩,
  ⟨"SLTI", .i, 0x0000707F#32, 0x00002013#32, false⟩,
  ⟨"SLTIU", .i, 0x0000707F#32, 0x00003013#32, false⟩,
  ⟨"XORI", .i, 0x0000707F#32, 0x00004013#32, false⟩,
  ⟨"ORI", .i, 0x0000707F#32, 0x00006013#32, false⟩,
  ⟨"ANDI", .i, 0x0000707F#32, 0x00007013#32, false⟩,
  ⟨"SLLI", .i, 0xFE00707F#32, 0x00001013#32, false⟩,
  ⟨"SRLI", .i, 0xFE00707F#32, 0x00005013#32, false⟩,
  ⟨"SRAI", .i, 0xFE00707F#32, 0x40005013#32, false⟩,
  ⟨"ADD", .r, 0xFE00707F#32, 0x00000033#32, false⟩,
  ⟨"SUB", .r, 0xFE00707F#32, 0x40000033#32, false⟩,
  ⟨"SLL", .r, 0xFE00707F#32, 0x00001033#32, false⟩,
  ⟨"SLT", .r, 0xFE00707F#32, 0x00002033#32, false⟩,
  ⟨"SLTU", .r, 0xFE00707F#32, 0x00003033#32, false⟩,
  ⟨"XOR", .r, 0xFE00707F#32, 0x00004033#32, false⟩,
  ⟨"SRL", .r, 0xFE00707F#32, 0x00005033#32, false⟩,
  ⟨"SRA", .r, 0xFE00707F#32, 0x40005033#32, false⟩,
  ⟨"OR", .r, 0xFE00707F#32, 0x00006033#32, false⟩,
  ⟨"AND", .r, 0xFE00707F#32, 0x00007033#32, false⟩,
  ⟨"FENCE", .i, 0x0000007F#32, 0x0000000F#32, false⟩,
  ⟨"ECALL", .i, 0xFFFFFFFF#32, 0x00000073#32, false⟩,
  ⟨"EBREAK", .i, 0xFFFFFFFF#32, 0x00100073#32, false⟩]

/-- RV32M rows. -/
def muldiv : List OpcodeRow := [
  ⟨"MUL", .r, 0xFE00707F#32, 0x02000033#32, false⟩,
  ⟨"MULH", .r, 0xFE00707F#32, 0x02001033#32, false⟩,
  ⟨"MULHSU", .r, 0xFE00707F#32, 0x02002033#32, false⟩,
  ⟨"MULHU", .r, 0xFE00707F#32, 0x02003033#32, false⟩,
  ⟨"DIV", .r, 0xFE00707F#32, 0x02004033#32, false⟩,
  ⟨"DIVU", .r, 0xFE00707F#32, 0x02005033#32, false⟩,
  ⟨"REM", .r, 0xFE00707F#32, 0x02006033#32, false⟩,
  ⟨"REMU", .r, 0xFE00707F#32, 0x02007033#32, false⟩]

/-- Zicsr rows. -/
def system : List OpcodeRow := [
  ⟨"CSRRW", .i, 0x0000707F#32, 0x00001073#32, false⟩,
  ⟨"CSRRS", .i, 0x0000707F#32, 0x00002073#32, false⟩,
  ⟨"CSRRC", .i, 0x0000707F#32, 0x00003073#32, false⟩,
  ⟨"CSRRWI", .i, 0x0000707F#32, 0x00005073#32, false⟩,
  ⟨"CSRRSI", .i, 0x0000707F#32, 0x00006073#32, false⟩,
  ⟨"CSRRCI", .i, 0x0000707F#32, 0x00007073#32, false⟩]

/-- RV32F rows. -/
def float : List OpcodeRow := [
  ⟨"FLW", .i, 0x0000707F#32, 0x00002007#32, false⟩,
  ⟨"FSW", .s, 0x0000707F#32, 0x00002027#32, false⟩,
  ⟨"FMADD.S", .r4, 0x0600007F#32, 0x00000043#32, true⟩,
  ⟨"FMSUB.S", .r4, 0x0600007F#32, 0x00000047#32, true⟩,
  ⟨"FNMSUB.S", .r4, 0x0600007F#32, 0x0000004B#32, true⟩,
  ⟨"FNMADD.S", .r4, 0x0600007F#32, 0x0000004F#32, true⟩,
  ⟨"FADD.S", .r, 0xFE00007F#32, 0x00000053#32, true⟩,
  ⟨"FSUB.S", .r, 0xFE00007F#32, 0x08000053#32, true⟩,
  ⟨"FMUL.S", .r, 0xFE00007F#32, 0x10000053#32, true⟩,
  ⟨"FDIV.S", .r, 0xFE00007F#32, 0x18000053#32, true⟩,
  ⟨"FSQRT.S", .r, 0xFFF0007F#32, 0x58000053#32, true⟩,
  ⟨"FSGNJ.S", .r, 0xFE00707F#32, 0x20000053#32, false⟩,
  ⟨"FSGNJN.S", .r, 0xFE00707F#32, 0x20001053#32, false⟩,
  ⟨"FSGNJX.S", .r, 0xFE00707F#32, 0x20002053#32, false⟩,
  ⟨"FMIN.S", .r, 0xFE00707F#32, 0x28000053#32, false⟩,
  ⟨"FMAX.S", .r, 0xFE00707F#32, 0x28001053#32, false⟩,
  ⟨"FCVT.W.S", .r, 0xFFF0007F#32, 0xC0000053#32, true⟩,
  ⟨"FCVT.WU.S", .r, 0xFFF0007F#32, 0xC0100053#32, true⟩,
  ⟨"FMV.X.W", .r, 0xFFF0707F#32, 0xE0000053#32, false⟩,
  ⟨"FEQ.S", .r, 0xFE00707F#32, 0xA0002053#32, false⟩,
  ⟨"FLT.S", .r, 0xFE00707F#32, 0xA0001053#32, false⟩,
  ⟨"FLE.S", .r, 0xFE00707F#32, 0xA0000053#32, false⟩,
  ⟨"FCLASS.S", .r, 0xFFF0707F#32, 0xE0001053#32, false⟩,
  ⟨"FCVT.S.W", .r, 0xFFF0007F#32, 0xD0000053#32, true⟩,
  ⟨"FCVT.S.WU", .r, 0xFFF0007F#32, 0xD0100053#32, true⟩,
  ⟨"FMV.W.X", .r, 0xFFF0707F#32, 0xF0000053#32, false⟩]

end OpcodeTable

/-- The 80 rows, in the table's order. -/
def opcodeTable : List OpcodeRow :=
  OpcodeTable.base ++ OpcodeTable.muldiv ++ OpcodeTable.system ++ OpcodeTable.float

/-- The mnemonic of an instruction, as the table spells it. -/
def Instr.mnemonic : Instr → String
  | .lui .. => "LUI"
  | .auipc .. => "AUIPC"
  | .jal .. => "JAL"
  | .jalr .. => "JALR"
  | .beq .. => "BEQ"
  | .bne .. => "BNE"
  | .blt .. => "BLT"
  | .bge .. => "BGE"
  | .bltu .. => "BLTU"
  | .bgeu .. => "BGEU"
  | .lb .. => "LB"
  | .lh .. => "LH"
  | .lw .. => "LW"
  | .lbu .. => "LBU"
  | .lhu .. => "LHU"
  | .sb .. => "SB"
  | .sh .. => "SH"
  | .sw .. => "SW"
  | .addi .. => "ADDI"
  | .slti .. => "SLTI"
  | .sltiu .. => "SLTIU"
  | .xori .. => "XORI"
  | .ori .. => "ORI"
  | .andi .. => "ANDI"
  | .slli .. => "SLLI"
  | .srli .. => "SRLI"
  | .srai .. => "SRAI"
  | .add .. => "ADD"
  | .sub .. => "SUB"
  | .sll .. => "SLL"
  | .slt .. => "SLT"
  | .sltu .. => "SLTU"
  | .xor .. => "XOR"
  | .srl .. => "SRL"
  | .sra .. => "SRA"
  | .or .. => "OR"
  | .and .. => "AND"
  | .fence .. => "FENCE"
  | .ecall => "ECALL"
  | .ebreak => "EBREAK"
  | .mul .. => "MUL"
  | .mulh .. => "MULH"
  | .mulhsu .. => "MULHSU"
  | .mulhu .. => "MULHU"
  | .div .. => "DIV"
  | .divu .. => "DIVU"
  | .rem .. => "REM"
  | .remu .. => "REMU"
  | .csrrw .. => "CSRRW"
  | .csrrs .. => "CSRRS"
  | .csrrc .. => "CSRRC"
  | .csrrwi .. => "CSRRWI"
  | .csrrsi .. => "CSRRSI"
  | .csrrci .. => "CSRRCI"
  | .flw .. => "FLW"
  | .fsw .. => "FSW"
  | .fmaddS .. => "FMADD.S"
  | .fmsubS .. => "FMSUB.S"
  | .fnmsubS .. => "FNMSUB.S"
  | .fnmaddS .. => "FNMADD.S"
  | .faddS .. => "FADD.S"
  | .fsubS .. => "FSUB.S"
  | .fmulS .. => "FMUL.S"
  | .fdivS .. => "FDIV.S"
  | .fsqrtS .. => "FSQRT.S"
  | .fsgnjS .. => "FSGNJ.S"
  | .fsgnjnS .. => "FSGNJN.S"
  | .fsgnjxS .. => "FSGNJX.S"
  | .fminS .. => "FMIN.S"
  | .fmaxS .. => "FMAX.S"
  | .fcvtWS .. => "FCVT.W.S"
  | .fcvtWuS .. => "FCVT.WU.S"
  | .fmvXW .. => "FMV.X.W"
  | .feqS .. => "FEQ.S"
  | .fltS .. => "FLT.S"
  | .fleS .. => "FLE.S"
  | .fclassS .. => "FCLASS.S"
  | .fcvtSW .. => "FCVT.S.W"
  | .fcvtSWu .. => "FCVT.S.WU"
  | .fmvWX .. => "FMV.W.X"

/-- The format tag of an instruction, as the table's `format` gives it (30_encoding.md R111). -/
def Instr.format : Instr → Format
  | .lui .. | .auipc .. => .u
  | .jal .. => .j
  | .beq .. | .bne .. | .blt .. | .bge .. | .bltu .. | .bgeu .. => .b
  | .jalr .. | .lb .. | .lh .. | .lw .. | .lbu .. | .lhu .. | .addi .. | .slti .. | .sltiu .. | .xori .. | .ori ..
  | .andi .. | .slli .. | .srli .. | .srai .. | .fence .. | .ecall .. | .ebreak .. | .csrrw .. | .csrrs .. | .csrrc ..
  | .csrrwi .. | .csrrsi .. | .csrrci .. | .flw .. => .i
  | .sb .. | .sh .. | .sw .. | .fsw .. => .s
  | .add .. | .sub .. | .sll .. | .slt .. | .sltu .. | .xor .. | .srl .. | .sra .. | .or .. | .and .. | .mul .. | .mulh ..
  | .mulhsu .. | .mulhu .. | .div .. | .divu .. | .rem .. | .remu .. | .faddS .. | .fsubS .. | .fmulS .. | .fdivS ..
  | .fsqrtS .. | .fsgnjS .. | .fsgnjnS .. | .fsgnjxS .. | .fminS .. | .fmaxS .. | .fcvtWS .. | .fcvtWuS .. | .fmvXW ..
  | .feqS .. | .fltS .. | .fleS .. | .fclassS .. | .fcvtSW .. | .fcvtSWu .. | .fmvWX .. => .r
  | .fmaddS .. | .fmsubS .. | .fnmsubS .. | .fnmaddS .. => .r4

/-- The format tag of the leaf that a word decodes to: that of its instruction, or `ILLEGAL` (R111, R120). -/
def Decoded.format : Decoded → Format
  | .ok i => i.format
  | .rejected _ => .illegal

end Sys2Proof
end

