-- ==== Sys2Proof/Config.lean ====
section
/-! DEFINITION. What an instance of the core fixes (00_scope.md R6): its parameters, the constant value of MISA, and the
free values of RAM bytes that nothing has written. -/

namespace Sys2Proof

/-- The open parameters of an instance (92_eei_decisions.md D1, D2, D3, D7, D8, D9), constant for its life.
A `Config` is a field of the machine's state, so that a statement about every state is about every instance (log 1). -/
structure Config where
  /-- `RAM_BASE` (D1). -/
  ramBase : Word
  /-- `RAM_SIZE` in bytes (D1). -/
  ramSize : Nat
  /-- `RESET_VECTOR` (D2). -/
  resetVector : Word
  /-- `MTVEC`, the fixed trap vector (D3). -/
  mtvec : Word
  /-- `HALT_ON_RESERVED` (D7). -/
  haltOnReserved : Bool
  /-- `HALT_ON_ECALL` (D7). -/
  haltOnEcall : Bool
  /-- `HALT_PC`, the sentinel (D8). -/
  haltPc : Option Word
  /-- `MTIMECMP` (D9, D30): read by no rule of the core. -/
  mtimecmp : BitVec 64
  deriving DecidableEq, Repr

namespace Config

/-- The one constraint the spec puts on the parameters: the RAM does not wrap (D1). -/
abbrev wf (c : Config) : Prop := c.ramBase.toNat + c.ramSize ≤ 2 ^ 32

/-- The instance of `State.reset`: the RAM, reset vector and trap vector of the spec's own examples, and the spec's defaults
for the options. DESIGN CHOICE (log 1). -/
def reference : Config where
  ramBase := 0x00000000#32
  ramSize := 0x10000
  resetVector := 0x00001000#32
  mtvec := 0x00000100#32
  haltOnReserved := false
  haltOnEcall := false
  haltPc := none
  mtimecmp := 0#64

/-- `MISA` (10_state.md R33, D32): bits 31:30 = 01, and the bits of I (8), M (12) and F (5). -/
def misaValue : Word := 0x40001120#32

/-- The free value of a RAM byte of the launch image that the loader did not write (D16): nothing is known of it (log 2). -/
opaque launchByte : Nat → Byte

/-- The free stop request number `n` (D6): what it answers at a cycle count, of which nothing is known (log 3). -/
opaque freeStopReq : Nat → Nat → Bool

end Config

end Sys2Proof
end

