-- ==== Sys2Proof/Machine/State.lean ====
section
/-! DEFINITION. The machine's state as plain data (10_state.md R20 to R40), its value after construction, and the reasons a
step could stop. -/

namespace Sys2Proof.Machine

/-- Why the machine stops with a fault. No constructor: the spec names no condition that stops the core, every one is a trap or
a halt (60_exceptions.md R350, R370), and both are next states. Raised by nothing; safe. -/
inductive Fault where
  deriving DecidableEq, Repr

/-- Why the model gives an instruction no meaning. -/
inductive Refusal where
  /-- The instruction has no meaning in this model yet: raised only by an arm of `exec` that names its mnemonic. Safe. No arm
  raises it. -/
  | notModelled (mnemonic : String)
  deriving DecidableEq, Repr

/-- The privilege level: machine mode, the only one (10_state.md R34, 60_exceptions.md R385). -/
inductive Privilege where
  | machine
  deriving DecidableEq, Repr

/-- The kinds an instruction or a tick can raise (60_exceptions.md R350), the values of `trap_cause` but `None`. -/
inductive TrapCause where
  | accessFaultFetch
  | illegalInstruction
  | illegalCsr
  | ebreak
  | accessFaultLoad
  | accessFaultStore
  | ecall
  | interrupt
  deriving DecidableEq, Repr

/-- Why the core halted (10_state.md R37 (a)). -/
inductive HaltReason where
  | stopRequest
  | reservedInstruction
  | ecall
  | sentinel
  deriving DecidableEq, Repr

/-- The type of one memory access (20_memory.md R61). -/
inductive AccessType where
  | byte
  | halfword
  | word
  | instructionWord
  deriving DecidableEq, Repr

/-- One request to the external callback (20_memory.md R64). -/
structure ExtRequest where
  addr : Word
  dataIn : Word
  type : AccessType
  isWrite : Bool
  deriving DecidableEq, Repr

/-- One answer of the external callback (20_memory.md R64). -/
structure ExtReply where
  dataOut : Word
  handled : Bool
  fault : Bool
  deriving DecidableEq, Repr, Inhabited

/-- An external callback: the answers it will give first, oldest first, the requests it was sent, newest first, and what it answers
when those answers are used up: nothing is handled, or the free callback number `n` answers. The model's own field, in place of the
spec's function parameter (log 5). -/
structure ExtPort where
  replies : List ExtReply
  requests : List ExtRequest
  rest : Option Nat
  deriving DecidableEq, Repr

/-- What an input of the run loop answers, apart from its exceptions: always the same, or the free function number `n`, of which
nothing is known. -/
inductive InputBase where
  | const (b : Bool)
  | free (n : Nat)
  deriving DecidableEq, Repr

/-- An input that the run loop samples once a tick, as plain data: a base, and the cycle-counter values at which the answer is the
opposite of the base's. In place of the spec's function parameters `stop_req` and `irq_pending` (log 3, log 4). -/
structure TickInput where
  base : InputBase
  except : List Nat
  deriving DecidableEq, Repr

/-- The constant `false`, the spec's default for both inputs (D5, D6). -/
def TickInput.never : TickInput := ⟨.const false, []⟩

/-- The constant `true`: a hook that keeps answering true (60_exceptions.md R367). -/
def TickInput.always : TickInput := ⟨.const true, []⟩

/-- Memory as a list of address and byte pairs (20_memory.md R60). -/
abbrev Memory := List Host.Cell

/-- The canonical form: addresses strictly rising. An unlisted address holds no byte in the list; what RAM reads there is
`State.ramByte` (log 2). -/
abbrev Memory.wf (m : Memory) : Prop := m.Pairwise (fun c d => c.1 < d.1)

/-- Everything the spec gives the machine. -/
structure State where
  /-- The parameters of this instance (00_scope.md R6); no step changes them. -/
  cfg : Config
  /-- `x[0..31]` (R21), through `readX` and `setX` only. -/
  x : Vector Word 32
  /-- `f[0..31]` (R23), through `readF` and `setF` only. -/
  f : Vector (BitVec 64) 32
  /-- `pc` (R24). -/
  pc : Word
  /-- The cell of `FFLAGS`, CSR 0x001 (R29). -/
  fflags : Word
  /-- The cell of `FRM`, CSR 0x002 (R30). -/
  frm : Word
  /-- The cell of `FCSR`, CSR 0x003 (R31). -/
  fcsr : Word
  /-- The cell of `MISA`, CSR 0x301 (R33). -/
  misa : Word
  /-- The privilege level (R34). -/
  priv : Privilege
  /-- The cycle counter, a count of ticks (R35). -/
  cycle : Nat
  /-- `halted` and `halt_reason` (R37 (a)): halted when there is a reason (log 7). -/
  halt : Option HaltReason
  /-- `fault_flag` (R37 (b)). -/
  faultFlag : Bool
  /-- `trap_pc` (R37 (c)). -/
  trapPc : Word
  /-- `trap_cause` (R37 (d)); `none` is the spec's `None`. -/
  trapCause : Option TrapCause
  /-- The bytes of RAM that the launch image or a store wrote (20_memory.md R62). -/
  memory : Memory
  /-- The input `stop_req` (D6, log 3), asked through `stopRequested` only. -/
  stopReq : TickInput
  /-- The input `irq_pending` (D5, log 4), asked through `irqAnswers` only. -/
  irqPending : TickInput
  /-- `ext_mem`, or absent (D4, log 5). -/
  ext : Option ExtPort
  deriving DecidableEq, Repr

/-- `halted` (R37 (a)). -/
abbrev State.halted (s : State) : Bool := s.halt.isSome

/-- The hart after construction with parameters `cfg` and launch image `mem0` (70_reset_and_hazards.md R400, 10_state.md R39),
with the spec's default inputs: no stop request, no interrupt, no callback (D4, D5, D6). -/
def State.construct (cfg : Config) (mem0 : Memory) : State where
  cfg := cfg
  x := Vector.replicate 32 0#32
  f := Vector.replicate 32 0#64
  pc := cfg.resetVector
  fflags := 0#32
  frm := 0#32
  fcsr := 0#32
  misa := Config.misaValue
  priv := .machine
  cycle := 0
  halt := none
  faultFlag := false
  trapPc := 0#32
  trapCause := none
  memory := mem0
  stopReq := .never
  irqPending := .never
  ext := none

/-- The machine right after construction, of the reference instance (log 1) with nothing loaded (log 2, log 13). -/
def State.reset : State := State.construct Config.reference []

end Sys2Proof.Machine

/-- The free interrupt hook number `n` (D5, 60_exceptions.md R365, R367): what it answers for a cycle count and a state, of which
nothing is known (log 4). -/
opaque Sys2Proof.Config.freeIrqPending : Nat → Nat → Sys2Proof.Machine.State → Bool

/-- The free callback number `n` (D4, 20_memory.md R64): its answer at a cycle count to a request, after the earlier requests, newest
first, of which nothing is known (log 5). -/
opaque Sys2Proof.Config.freeReply :
  Nat → Nat → Sys2Proof.Machine.ExtRequest → List Sys2Proof.Machine.ExtRequest → Sys2Proof.Machine.ExtReply
end

