-- ==== Sys2Proof/Machine/Ops.lean ====
section
/-! DEFINITION. The named operations over the state: registers, memory, CSRs, taking a trap, halting, the reset command. -/

namespace Sys2Proof.Machine

/-- What executing an instruction answers. -/
abbrev Result := Host.Outcome State Fault Refusal

/-! ### Integer registers (10_state.md R21) -/

/-- `x[r]`: 0 for index 0. -/
def State.readX (s : State) (r : XReg) : Word := if r = 0#5 then 0#32 else s.x[r.toNat]

/-- `x[r] <- v`: discarded for index 0. -/
def State.setX (r : XReg) (v : Word) (s : State) : State :=
  if r = 0#5 then s else { s with x := s.x.set r.toNat v }

/-! ### Floating-point registers (10_state.md R23, 45_fp_instructions.md R300) -/

/-- The 64 bits of `f[r]`. -/
def State.readF (s : State) (r : FReg) : BitVec 64 := s.f[r.toNat]

/-- `f32[r] = f[r][31:0]`. -/
def State.readF32 (s : State) (r : FReg) : Word := (s.readF r).extractLsb' 0 32

/-- `f[r] <- v`, all 64 bits. -/
def State.setF (r : FReg) (v : BitVec 64) (s : State) : State := { s with f := s.f.set r.toNat v }

/-- A single-precision value in a 64-bit slot: the upper half all ones (R23, D31). -/
def boxed (v : Word) : BitVec 64 := 0xFFFFFFFF#32 ++ v

/-- `f32[r] <- v`. -/
def State.setF32 (r : FReg) (v : Word) (s : State) : State := s.setF r (boxed v)

/-! ### Program counter (10_state.md R24, R25) -/

/-- `pc <- t`. -/
def State.setPc (t : Word) (s : State) : State := { s with pc := t }

/-- `pc <- trunc32(pc + 4)`. -/
def State.advance (s : State) : State := s.setPc (s.pc + 4#32)

/-! ### Memory (20_memory.md R60 to R68) -/

/-- The byte listed at an address, if one is. -/
def Memory.get (a : Nat) : Memory → Option Byte
  | [] => none
  | (k, b) :: rest => if k = a then some b else Memory.get a rest

/-- The byte `b` at address `a`; the list stays strictly rising. -/
def Memory.set (a : Nat) (b : Byte) : Memory → Memory
  | [] => [(a, b)]
  | (k, c) :: rest =>
    if a < k then (a, b) :: (k, c) :: rest
    else if k = a then (a, b) :: rest
    else (k, c) :: Memory.set a b rest

/-- The address of byte `i` of an access at `addr`: `trunc32(addr + i)` (R65). -/
def byteAddr (addr : Word) (i : Nat) : Nat := (addr + BitVec.ofNat 32 i).toNat

/-- Whether a byte address lies in RAM (R62). -/
def inRam (c : Config) (a : Nat) : Bool := c.ramBase.toNat ≤ a && a < c.ramBase.toNat + c.ramSize

/-- Whether the `n` bytes of an access at `addr` all lie in RAM (R63). -/
def allInRam (c : Config) (addr : Word) : Nat → Bool
  | 0 => true
  | n + 1 => allInRam c addr n && inRam c (byteAddr addr n)

/-- `RAM[a]`: the listed byte, or the free value of a byte nothing wrote (D16, log 2). -/
def State.ramByte (s : State) (a : Nat) : Byte := (Memory.get a s.memory).getD (Config.launchByte a)

/-- Bytes `addr .. addr+n-1` as a little-endian number, the byte at `addr` in bits 7:0 (R65, R68). -/
def State.loadBytes (s : State) (addr : Word) : Nat → Word
  | 0 => 0#32
  | n + 1 => s.loadBytes addr n ||| ((s.ramByte (byteAddr addr n)).setWidth 32 <<< (8 * n))

/-- The low `n` bytes of `v` at `addr .. addr+n-1`, `v[7:0]` at `addr` (R66, R68). -/
def storeBytes (addr v : Word) (m : Memory) : Nat → Memory
  | 0 => m
  | n + 1 => Memory.set (byteAddr addr n) (v.extractLsb' (8 * n) 8) (storeBytes addr v m n)

/-- Bytes of an access (R61). -/
def AccessType.bytes : AccessType → Nat
  | .byte => 1
  | .halfword => 2
  | .word => 4
  | .instructionWord => 4

/-- The low `n` bytes of a word, zero-extended. -/
def lowBytes (v : Word) (n : Nat) : Word := v &&& BitVec.ofNat 32 (2 ^ (8 * n) - 1)

/-- The answer "not handled", of an absent callback and of one that has no answer left (D4, log 5). -/
def ExtReply.notHandled : ExtReply := ⟨0#32, false, false⟩

/-- What the callback answers to the request `req` at a cycle count: the oldest answer left, else the free callback's, which may
depend on the request and on all earlier ones, else "not handled" (R64, log 5). -/
def ExtPort.answer (cycle : Nat) (req : ExtRequest) (p : ExtPort) : ExtReply :=
  match p.replies, p.rest with
  | r :: _, _ => r
  | [], some n => Config.freeReply n cycle req p.requests
  | [], none => .notHandled

/-- The callback after the request `req`: an answer used up, the request recorded. -/
def ExtPort.after (req : ExtRequest) (p : ExtPort) : ExtPort :=
  { p with replies := p.replies.tail, requests := req :: p.requests }

/-- The callback's answer to the request `req`; an absent callback handles nothing (D4). -/
def State.reply (req : ExtRequest) (s : State) : ExtReply :=
  match s.ext with
  | none => .notHandled
  | some p => p.answer s.cycle req

/-- One request to the callback, if it is present: its answer, and the port with the request recorded (R63 (1), R64). -/
def State.askExt (req : ExtRequest) (s : State) : ExtReply × State :=
  (s.reply req, { s with ext := s.ext.map (·.after req) })

/-- The request of a read (R65). -/
def readReq (addr : Word) (type : AccessType) : ExtRequest := ⟨addr, 0#32, type, false⟩

/-- The request of a write; only the low bytes of the data are shown (R66). -/
def writeReq (addr v : Word) (type : AccessType) : ExtRequest := ⟨addr, lowBytes v type.bytes, type, true⟩

/-- An access that is not served sets `fault_flag` (60_exceptions.md R353). -/
def State.flagFault (s : State) : State := { s with faultFlag := true }

/-- `MemRead(addr, n)` and `Fetch(addr)` (R65, R67): the `8n`-bit pattern zero-extended, or `none` for an access fault, and the
state after the callback was asked. -/
def State.memRead (type : AccessType) (addr : Word) (s : State) : Option Word × State :=
  let (r, t) := s.askExt (readReq addr type)
  if r.handled then
    if r.fault then (none, t.flagFault) else (some (lowBytes r.dataOut type.bytes), t)
  else if allInRam t.cfg addr type.bytes then (some (t.loadBytes addr type.bytes), t)
  else (none, t.flagFault)

/-- `MemWrite(addr, n, v)` (R66): whether the access was served, and the state after it. An access that is not served writes
nothing (D13). -/
def State.memWrite (type : AccessType) (addr v : Word) (s : State) : Bool × State :=
  let (r, t) := s.askExt (writeReq addr v type)
  if r.handled then
    if r.fault then (false, t.flagFault) else (true, t)
  else if allInRam t.cfg addr type.bytes then
    (true, { t with memory := storeBytes addr v t.memory type.bytes })
  else (false, t.flagFault)

/-! ### Traps and halts (60_exceptions.md) -/

/-- `TrapEntry(kind)` (R357): the one operation that takes an exception. There is no return from one (R358). -/
def State.trapEntry (kind : TrapCause) (s : State) : State :=
  { s with trapPc := s.pc, trapCause := some kind, pc := s.cfg.mtvec }

/-- The core halts; nothing else changes (R370). -/
def State.haltWith (r : HaltReason) (s : State) : State := { s with halt := some r }

/-- What the run loop does with a raised kind (R360): the two halt options turn their kinds into halts (R372, R373), an access
fault's flag is consumed (R353), and everything else enters the trap. -/
def State.raise (kind : TrapCause) (s : State) : State :=
  match kind with
  | .illegalInstruction =>
    if s.cfg.haltOnReserved then s.haltWith .reservedInstruction else s.trapEntry .illegalInstruction
  | .ecall => if s.cfg.haltOnEcall then s.haltWith .ecall else s.trapEntry .ecall
  | .accessFaultFetch => ({ s with faultFlag := false } : State).trapEntry .accessFaultFetch
  | .accessFaultLoad => ({ s with faultFlag := false } : State).trapEntry .accessFaultLoad
  | .accessFaultStore => ({ s with faultFlag := false } : State).trapEntry .accessFaultStore
  | .illegalCsr => s.trapEntry .illegalCsr
  | .ebreak => s.trapEntry .ebreak
  | .interrupt => s.trapEntry .interrupt

/-! ### Control and status registers (43_csr.md R230 to R234) -/

/-- The implemented CSRs (R231). -/
inductive Csr where
  | fflags
  | frm
  | fcsr
  | misa
  deriving DecidableEq, Repr

/-- `implemented(a)` and which CSR it is (R231, 10_state.md R27). -/
def csrOfAddr (a : CsrAddr) : Option Csr :=
  match a with
  | 0x001#12 => some .fflags
  | 0x002#12 => some .frm
  | 0x003#12 => some .fcsr
  | 0x301#12 => some .misa
  | _ => none

/-- `mask(a)` (R231). -/
def Csr.mask : Csr → Word
  | .fflags => 0x0000001F#32
  | .frm => 0x00000007#32
  | .fcsr => 0x000000FF#32
  | .misa => 0x00000000#32

/-- `csr_read(a)` (R233). -/
def State.csrRead (s : State) : Csr → Word
  | .fflags => s.fflags
  | .frm => s.frm
  | .fcsr => s.fcsr
  | .misa => s.misa

/-- A cell takes a value, without mask or alias. -/
def State.setCsr (c : Csr) (v : Word) (s : State) : State :=
  match c with
  | .fflags => { s with fflags := v }
  | .frm => { s with frm := v }
  | .fcsr => { s with fcsr := v }
  | .misa => { s with misa := v }

/-- `alias_sync(a)` (R234). -/
def State.aliasSync (c : Csr) (s : State) : State :=
  match c with
  | .fflags => { s with fcsr := (s.fcsr &&& ~~~0x1F#32) ||| (s.fflags &&& 0x1F#32) }
  | .frm => { s with fcsr := (s.fcsr &&& ~~~0xE0#32) ||| ((s.frm &&& 0x7#32) <<< 5) }
  | .fcsr => { s with fflags := s.fcsr &&& 0x1F#32, frm := (s.fcsr >>> 5) &&& 0x7#32 }
  | .misa => s

/-- `csr_write(a, w)` (R233): through the mask, then the aliases. -/
def State.csrWrite (c : Csr) (w : Word) (s : State) : State :=
  (s.setCsr c ((s.csrRead c &&& ~~~c.mask) ||| (w &&& c.mask))).aliasSync c

/-- The shape of the six CSR instructions (R230, R232): `IllegalCSR` if the address is not implemented; else the old value is
read, `newValue old` is written if there is one, and `rd` takes the old value. -/
def csrAccess (rd : XReg) (addr : CsrAddr) (newValue : Word → Option Word) (s : State) : Result :=
  match csrOfAddr addr with
  | none => .next (s.raise .illegalCsr)
  | some c =>
    let old := s.csrRead c
    let t := match newValue old with
      | some w => s.csrWrite c w
      | none => s
    .next ((t.setX rd old).advance)

/-! ### Outcomes shared by many instructions -/

/-- `x[rd] <- v; pc <- pc + 4`. -/
def writeX (rd : XReg) (v : Word) (s : State) : Result := .next ((s.setX rd v).advance)

/-- `f32[rd] <- v; pc <- pc + 4`. -/
def writeF (rd : FReg) (v : Word) (s : State) : Result := .next ((s.setF32 rd v).advance)

/-- `pc <- trunc32(pc + offset)` if the branch is taken, else `pc + 4` (41_integer.md R191). -/
def branchIf (taken : Bool) (offset : Word) (s : State) : Result :=
  .next (if taken then s.setPc (s.pc + offset) else s.advance)

/-- A load: `MemRead`, then the register write `put` of the pattern, or `AccessFault(Load)` (41_integer.md R192). -/
def loadThen (type : AccessType) (addr : Word) (put : Word → State → State) (s : State) : Result :=
  match s.memRead type addr with
  | (some v, t) => .next ((put v t).advance)
  | (none, t) => .next (t.raise .accessFaultLoad)

/-- A store: `MemWrite`, or `AccessFault(Store)` (41_integer.md R193). -/
def storeThen (type : AccessType) (addr v : Word) (s : State) : Result :=
  match s.memWrite type addr v with
  | (true, t) => .next t.advance
  | (false, t) => .next (t.raise .accessFaultStore)

/-! ### The reset command (70_reset_and_hazards.md R401) -/

/-- `reset()`: an action of the host at a tick boundary. Memory, the cycle counter, MISA, the parameters and the inputs stay. -/
def State.resetCommand (s : State) : State :=
  { s with
    x := Vector.replicate 32 0#32
    f := Vector.replicate 32 0#64
    fflags := 0#32
    frm := 0#32
    fcsr := 0#32
    pc := s.cfg.resetVector
    halt := none
    faultFlag := false
    trapPc := 0#32
    trapCause := none }

end Sys2Proof.Machine
end

