-- ==== Sys2Proof/Machine/Operands.lean ====
section
/-! DEFINITION. The operand forms: effective addresses, shift counts, the CSR immediate, the effective rounding mode. -/

namespace Sys2Proof.Machine

/-- `ea = trunc32(x[rs1] + imm)`, the one addressing mode (41_integer.md R192, R193; 45_fp_instructions.md R301, R302). -/
def State.effAddr (s : State) (rs1 : XReg) (imm : Word) : Word := s.readX rs1 + imm

/-- The shift count of a register: its low 5 bits (41_integer.md R179, R190 (3)). -/
def shiftCount (v : Word) : Nat := (v.extractLsb' 0 5).toNat

/-- The target of JALR: bit 0 of the sum cleared (41_integer.md R153). -/
def State.jalrTarget (s : State) (rs1 : XReg) (imm : Word) : Word := (s.readX rs1 + imm) &&& 0xFFFFFFFE#32

/-- `uimm`, zero-extended (30_encoding.md R100). -/
def zextUimm (uimm : BitVec 5) : Word := uimm.setWidth 32

/-- `eff_rm(rm)` (44_fp_numerics.md R262): `none` is the raise of `IllegalInstruction`. -/
def State.effRm (s : State) (rm : RmField) : Option RoundingMode :=
  match rm with
  | .static m => some m
  | .dyn => RoundingMode.ofBits (s.frm.extractLsb' 0 3)

/-- An instruction with an `rm` field (45_fp_instructions.md R327): the effective mode first, and nothing else happens if it
raises. -/
def withMode (rm : RmField) (run : RoundingMode → State → State) (s : State) : Result :=
  match s.effRm rm with
  | some m => .next (run m s)
  | none => .next (s.raise .illegalInstruction)

end Sys2Proof.Machine
end

