-- ==== Sys2Proof/Machine/AluImm.lean ====
section
/-! DEFINITION. Register-immediate ALU and shifts by immediate (41_integer.md R168 to R176, R194, R195). -/

namespace Sys2Proof.Machine

/-- ADDI (R168). Wraps modulo 2^32. -/
def execAddi (rd rs1 : XReg) (imm : Word) (s : State) : Result :=
  writeX rd (s.readX rs1 + imm) s

/-- SLTI (R169). Signed comparison. -/
def execSlti (rd rs1 : XReg) (imm : Word) (s : State) : Result :=
  writeX rd (if (s.readX rs1).slt imm then 1#32 else 0#32) s

/-- SLTIU (R170). Unsigned comparison with the sign-extended immediate. -/
def execSltiu (rd rs1 : XReg) (imm : Word) (s : State) : Result :=
  writeX rd (if (s.readX rs1).ult imm then 1#32 else 0#32) s

/-- XORI (R171). Bitwise exclusive or. -/
def execXori (rd rs1 : XReg) (imm : Word) (s : State) : Result :=
  writeX rd (s.readX rs1 ^^^ imm) s

/-- ORI (R172). Bitwise or. -/
def execOri (rd rs1 : XReg) (imm : Word) (s : State) : Result :=
  writeX rd (s.readX rs1 ||| imm) s

/-- ANDI (R173). Bitwise and. -/
def execAndi (rd rs1 : XReg) (imm : Word) (s : State) : Result :=
  writeX rd (s.readX rs1 &&& imm) s

/-- SLLI (R174). Left shift. -/
def execSlli (rd rs1 : XReg) (shamt : BitVec 5) (s : State) : Result :=
  writeX rd (s.readX rs1 <<< shamt.toNat) s

/-- SRLI (R175). Logical right shift. -/
def execSrli (rd rs1 : XReg) (shamt : BitVec 5) (s : State) : Result :=
  writeX rd (s.readX rs1 >>> shamt.toNat) s

/-- SRAI (R176). Arithmetic right shift. -/
def execSrai (rd rs1 : XReg) (shamt : BitVec 5) (s : State) : Result :=
  writeX rd ((s.readX rs1).sshiftRight shamt.toNat) s

end Sys2Proof.Machine
end

