-- ==== Sys2Proof/Machine/AluReg.lean ====
section
/-! DEFINITION. Register-register ALU (41_integer.md R177 to R186, R196). -/

namespace Sys2Proof.Machine

/-- ADD (R177). Wraps modulo 2^32. -/
def execAdd (rd rs1 rs2 : XReg) (s : State) : Result :=
  writeX rd (s.readX rs1 + s.readX rs2) s

/-- SUB (R178). Wraps modulo 2^32. -/
def execSub (rd rs1 rs2 : XReg) (s : State) : Result :=
  writeX rd (s.readX rs1 - s.readX rs2) s

/-- SLL (R179). Left shift by the low 5 bits. -/
def execSll (rd rs1 rs2 : XReg) (s : State) : Result :=
  writeX rd (s.readX rs1 <<< shiftCount (s.readX rs2)) s

/-- SLT (R180). Signed comparison. -/
def execSlt (rd rs1 rs2 : XReg) (s : State) : Result :=
  writeX rd (if (s.readX rs1).slt (s.readX rs2) then 1#32 else 0#32) s

/-- SLTU (R181). Unsigned comparison. -/
def execSltu (rd rs1 rs2 : XReg) (s : State) : Result :=
  writeX rd (if (s.readX rs1).ult (s.readX rs2) then 1#32 else 0#32) s

/-- XOR (R182). Bitwise exclusive or. -/
def execXor (rd rs1 rs2 : XReg) (s : State) : Result :=
  writeX rd (s.readX rs1 ^^^ s.readX rs2) s

/-- SRL (R183). Logical right shift by the low 5 bits. -/
def execSrl (rd rs1 rs2 : XReg) (s : State) : Result :=
  writeX rd (s.readX rs1 >>> shiftCount (s.readX rs2)) s

/-- SRA (R184). Arithmetic right shift by the low 5 bits. -/
def execSra (rd rs1 rs2 : XReg) (s : State) : Result :=
  writeX rd ((s.readX rs1).sshiftRight (shiftCount (s.readX rs2))) s

/-- OR (R185). Bitwise or. -/
def execOr (rd rs1 rs2 : XReg) (s : State) : Result :=
  writeX rd (s.readX rs1 ||| s.readX rs2) s

/-- AND (R186). Bitwise and. -/
def execAnd (rd rs1 rs2 : XReg) (s : State) : Result :=
  writeX rd (s.readX rs1 &&& s.readX rs2) s

end Sys2Proof.Machine
end

