-- ==== Sys2Proof/Machine/ControlFlow.lean ====
section
/-! DEFINITION. Jumps and conditional branches (41_integer.md R152 to R159, R191). -/

namespace Sys2Proof.Machine

/-- JAL (R152). Link, then jump; no alignment check (D11). -/
def execJal (rd : XReg) (imm : Word) (s : State) : Result :=
  .next ((s.setX rd (s.pc + 4#32)).setPc (s.pc + imm))

/-- JALR (R153). The target uses the old value of `rs1` (D25); `ignored` has no effect (R121). -/
def execJalr (rd rs1 : XReg) (imm : Word) (_ignored : BitVec 3) (s : State) : Result :=
  .next ((s.setX rd (s.pc + 4#32)).setPc (s.jalrTarget rs1 imm))

/-- BEQ (R154). Equal. -/
def execBeq (rs1 rs2 : XReg) (imm : Word) (s : State) : Result :=
  branchIf (s.readX rs1 == s.readX rs2) imm s

/-- BNE (R155). Not equal. -/
def execBne (rs1 rs2 : XReg) (imm : Word) (s : State) : Result :=
  branchIf (s.readX rs1 != s.readX rs2) imm s

/-- BLT (R156). Signed less than. -/
def execBlt (rs1 rs2 : XReg) (imm : Word) (s : State) : Result :=
  branchIf ((s.readX rs1).slt (s.readX rs2)) imm s

/-- BGE (R157). Signed greater or equal. -/
def execBge (rs1 rs2 : XReg) (imm : Word) (s : State) : Result :=
  branchIf (!(s.readX rs1).slt (s.readX rs2)) imm s

/-- BLTU (R158). Unsigned less than. -/
def execBltu (rs1 rs2 : XReg) (imm : Word) (s : State) : Result :=
  branchIf ((s.readX rs1).ult (s.readX rs2)) imm s

/-- BGEU (R159). Unsigned greater or equal. -/
def execBgeu (rs1 rs2 : XReg) (imm : Word) (s : State) : Result :=
  branchIf (!(s.readX rs1).ult (s.readX rs2)) imm s

end Sys2Proof.Machine
end

