-- ==== Sys2Proof/Machine/Flags.lean ====
section
/-! DEFINITION. The five IEEE flags, the only flags of the hardware (10_state.md R29, R36), and their accrual. -/

namespace Sys2Proof.Machine

/-- A set of flags (10_state.md R29): invalid, divide by zero, overflow, underflow, inexact. -/
structure FpFlags where
  nv : Bool
  dz : Bool
  ovf : Bool
  unf : Bool
  nx : Bool
  deriving DecidableEq, Repr

namespace FpFlags

/-- No flag. -/
def empty : FpFlags := ⟨false, false, false, false, false⟩

/-- The NV flag alone if `b`. -/
def nvIf (b : Bool) : FpFlags := ⟨b, false, false, false, false⟩

/-- Only NV. -/
def onlyNv : FpFlags := nvIf true

/-- Only DZ. -/
def onlyDz : FpFlags := ⟨false, true, false, false, false⟩

/-- Overflow, which always comes with inexact (44_fp_numerics.md R265). -/
def overflow : FpFlags := ⟨false, false, true, false, true⟩

/-- Inexact if `nx`, with underflow if also `tiny` (44_fp_numerics.md R264, R266). -/
def inexact (nx tiny : Bool) : FpFlags := ⟨false, false, false, nx && tiny, nx⟩

/-- `bits(F)`: NV 0x10, DZ 0x08, OF 0x04, UF 0x02, NX 0x01 (10_state.md R29). -/
def bits (F : FpFlags) : Word :=
  (if F.nv then 0x10#32 else 0#32) ||| (if F.dz then 0x08#32 else 0#32) ||| (if F.ovf then 0x04#32 else 0#32) |||
    (if F.unf then 0x02#32 else 0#32) ||| (if F.nx then 0x01#32 else 0#32)

end FpFlags

/-- `accrue(F)` (44_fp_numerics.md R275). -/
def State.accrue (F : FpFlags) (s : State) : State :=
  { s with fflags := s.fflags ||| F.bits, fcsr := s.fcsr ||| F.bits }

end Sys2Proof.Machine
end

