-- ==== Sys2Proof/Machine/Fp.lean ====
section
/-! DEFINITION. The floating-point unit (44_fp_numerics.md): binary32, rounding, and the value functions, on exact values.

Every finite pattern is an integer multiple of 2^-149 (R260). `mag a` and `num a` are that integer, without and with the sign, so
the exact sums, products and quotients of the rules are computed on integers (log 15). Results and flags are functions of the operands
and the mode alone, RMM included: there is no host rounding mode, to borrow or to save (R284). -/

namespace Sys2Proof.Machine.Fp

/-! ### Format and classes (R260, R261) -/

/-- `sign(a) = a[31]`. -/
def sign (a : Word) : Bool := a.getLsbD 31

/-- The biased exponent `a[30:23]`. -/
def expo (a : Word) : BitVec 8 := a.extractLsb' 23 8

/-- The fraction `a[22:0]`. -/
def frac (a : Word) : BitVec 23 := a.extractLsb' 0 23

def isNaN (a : Word) : Bool := expo a == 0xFF#8 && frac a != 0#23
def isSNaN (a : Word) : Bool := isNaN a && !a.getLsbD 22
def isQNaN (a : Word) : Bool := isNaN a && a.getLsbD 22
def isInf (a : Word) : Bool := a &&& 0x7FFFFFFF#32 == 0x7F800000#32
def isZero (a : Word) : Bool := a &&& 0x7FFFFFFF#32 == 0#32
def isSub (a : Word) : Bool := expo a == 0#8 && frac a != 0#23

/-- `s << 31`. -/
def signBit (s : Bool) : Word := if s then 0x80000000#32 else 0#32

/-- `CNAN`, the canonical quiet NaN (D27). -/
def cnan : Word := 0x7FC00000#32

/-- `inf(s)`. -/
def inf (s : Bool) : Word := signBit s ||| 0x7F800000#32

/-- `zero(s)`. -/
def zero (s : Bool) : Word := signBit s

/-- `maxf(s)`. -/
def maxf (s : Bool) : Word := signBit s ||| 0x7F7FFFFF#32

/-- `|val(a)| * 2^149` of a finite pattern (R260): `t`, or `(2^23 + t) * 2^(e-1)`. -/
def mag (a : Word) : Nat :=
  if expo a = 0#8 then (frac a).toNat else (2 ^ 23 + (frac a).toNat) * 2 ^ ((expo a).toNat - 1)

/-- `val(a) * 2^149` of a finite pattern (R260). -/
def num (a : Word) : Int := if sign a then -(mag a : Int) else (mag a : Int)

/-- `2^149`, the denominator of every value. -/
def unit : Nat := 2 ^ 149

/-! ### Rounding (R263 to R266) -/

/-- An exact non-negative rational, not reduced; the denominator is positive wherever one is built. -/
structure Frac where
  num : Nat
  den : Nat
  deriving DecidableEq, Repr

/-- `x * 2^k`. -/
def Frac.scale (x : Frac) (k : Int) : Frac :=
  match k with
  | .ofNat n => ⟨x.num * 2 ^ n, x.den⟩
  | .negSucc n => ⟨x.num, x.den * 2 ^ (n + 1)⟩

/-- `floor(log2(x))` for `x > 0`: `2^E <= x < 2^(E+1)`. -/
def Frac.floorLog2 (x : Frac) : Int :=
  let k : Int := (x.num.log2 : Int) - (x.den.log2 : Int)
  let y := x.scale (-k)
  if y.den ≤ y.num then k else k - 1

/-- `round_int(x, rm, s)` (R264). -/
def roundInt (x : Frac) (rm : RoundingMode) (s : Bool) : Nat :=
  let fl := x.num / x.den
  let r := x.num % x.den
  if r = 0 then fl
  else match rm with
    | .rne => if x.den < 2 * r || (2 * r == x.den && fl % 2 == 1) then fl + 1 else fl
    | .rtz => fl
    | .rdn => if s then fl + 1 else fl
    | .rup => if s then fl else fl + 1
    | .rmm => if x.den ≤ 2 * r then fl + 1 else fl

/-- `overflow(s, rm)` (R265). -/
def overflow (s : Bool) (rm : RoundingMode) : Word × FpFlags :=
  let toInf := match rm with
    | .rne => true
    | .rtz => false
    | .rdn => s
    | .rup => !s
    | .rmm => true
  (if toInf then inf s else maxf s, .overflow)

/-- The last step of `round32` (R264): the pattern of `n * 2^q`, for `n < 2^24` and the quantum `q`, with flags `F`, or an
overflow. -/
def pack (s : Bool) (n : Nat) (q : Int) (rm : RoundingMode) (F : FpFlags) : Word × FpFlags :=
  if n = 0 then (zero s, F)
  else if n < 2 ^ 23 then (signBit s ||| BitVec.ofNat 32 n, F)
  else if q + 150 ≥ 255 then overflow s rm
  else (signBit s ||| BitVec.ofNat 32 ((q + 150).toNat * 2 ^ 23 + (n - 2 ^ 23)), F)

/-- `round32(s, m, rm)` for an exact magnitude `m > 0` (R264). -/
def round32 (s : Bool) (m : Frac) (rm : RoundingMode) : Word × FpFlags :=
  let qu := m.floorLog2 - 23
  let nu := roundInt (m.scale (-qu)) rm s
  let u := Frac.scale ⟨nu, 1⟩ (qu + 126)
  let tiny := decide (u.num < u.den)
  let q := max qu (-149)
  let y := m.scale (-q)
  let n := roundInt y rm s
  let nx := n * y.den != y.num
  if n = 2 ^ 24 then pack s (2 ^ 23) (q + 1) rm (.inexact nx tiny)
  else pack s n q rm (.inexact nx tiny)

/-- The sign of an exact zero sum of opposite-signed terms: minus only under RDN (R267). -/
def cancelZero (rm : RoundingMode) : Word := zero (rm == .rdn)

/-- An exact non-zero value `v / d` rounded, its sign from `v`. -/
def roundSigned (v : Int) (d : Nat) (rm : RoundingMode) : Word × FpFlags := round32 (decide (v < 0)) ⟨v.natAbs, d⟩ rm

/-! ### Adder, multiplier, divider, square root, fused multiply-add (R272 to R277) -/

/-- The flags of an operation whose only event is a signalling NaN operand (R268). -/
def nanFlags2 (a b : Word) : FpFlags := .nvIf (isSNaN a || isSNaN b)

/-- `fadd32(a, b, rm)` (R272). -/
def fadd32 (a b : Word) (rm : RoundingMode) : Word × FpFlags :=
  if isNaN a || isNaN b then (cnan, nanFlags2 a b)
  else if isInf a && isInf b && sign a != sign b then (cnan, .onlyNv)
  else if isInf a then (a, .empty)
  else if isInf b then (b, .empty)
  else
    let v := num a + num b
    if v = 0 then (if sign a = sign b then zero (sign a) else cancelZero rm, .empty)
    else roundSigned v unit rm

/-- `fsub32(a, b, rm)` (R272): the adder with the sign of `b` inverted. -/
def fsub32 (a b : Word) (rm : RoundingMode) : Word × FpFlags := fadd32 a (b ^^^ 0x80000000#32) rm

/-- `fmul32(a, b, rm)` (R273). -/
def fmul32 (a b : Word) (rm : RoundingMode) : Word × FpFlags :=
  let s := sign a ^^ sign b
  if isNaN a || isNaN b then (cnan, nanFlags2 a b)
  else if isInf a || isInf b then
    if isZero a || isZero b then (cnan, .onlyNv) else (inf s, .empty)
  else
    let p := mag a * mag b
    if p = 0 then (zero s, .empty) else round32 s ⟨p, unit * unit⟩ rm

/-- `fdiv32(a, b, rm)` (R274). -/
def fdiv32 (a b : Word) (rm : RoundingMode) : Word × FpFlags :=
  let s := sign a ^^ sign b
  if isNaN a || isNaN b then (cnan, nanFlags2 a b)
  else if isInf a then
    if isInf b then (cnan, .onlyNv) else (inf s, .empty)
  else if isInf b then (zero s, .empty)
  else if isZero b then
    if isZero a then (cnan, .onlyNv) else (inf s, .onlyDz)
  else if isZero a then (zero s, .empty)
  else round32 s ⟨mag a, mag b⟩ rm

/-- The integer square root bit by bit: the bits `i-1 .. 0` of the root of `n`, above them the root `r` found so far. -/
def isqrtBits (n : Nat) : Nat → Nat → Nat
  | 0, r => r
  | i + 1, r => isqrtBits n i (if (r + 2 ^ i) * (r + 2 ^ i) ≤ n then r + 2 ^ i else r)

/-- `floor(sqrt(n))` for `n < 2^340`. -/
def isqrt (n : Nat) : Nat := isqrtBits n 170 0

/-- A rational that rounds as the exact `sqrt(val(a))` does (R276): with `val(a) = N / 2^149`, the root of `2N * 4^26` over
`2^101`, at least 26 bits of it, and half a unit more when it is not exact. -/
def sqrtFrac (a : Word) : Frac :=
  let n := 2 * mag a * 2 ^ 52
  let r := isqrt n
  ⟨2 * r + (if r * r = n then 0 else 1), 2 ^ 102⟩

/-- `fsqrt32(a, rm)` (R276). -/
def fsqrt32 (a : Word) (rm : RoundingMode) : Word × FpFlags :=
  if isNaN a then (cnan, .nvIf (isSNaN a))
  else if isZero a then (a, .empty)
  else if sign a then (cnan, .onlyNv)
  else if isInf a then (a, .empty)
  else round32 false (sqrtFrac a) rm

/-- `fma32(a, b, c, rm, negp, negc)` (R277). -/
def fma32 (a b c : Word) (rm : RoundingMode) (negp negc : Bool) : Word × FpFlags :=
  let ps := (sign a ^^ sign b) ^^ negp
  let cc := c ^^^ signBit negc
  let cs := sign cc
  if (isInf a && isZero b) || (isZero a && isInf b) then (cnan, .onlyNv)
  else if isNaN a || isNaN b || isNaN c then (cnan, .nvIf (isSNaN a || isSNaN b || isSNaN c))
  else if isInf a || isInf b then
    if isInf cc && cs != ps then (cnan, .onlyNv) else (inf ps, .empty)
  else if isInf cc then (cc, .empty)
  else
    let p := if negp then -(num a * num b) else num a * num b
    let v := p + num cc * unit
    if v = 0 then
      (if p = 0 ∧ isZero cc then (if ps = cs then zero ps else cancelZero rm) else cancelZero rm, .empty)
    else roundSigned v (unit * unit) rm

/-! ### Minimum, maximum, comparison (R278, R279) -/

/-- The total order on non-NaN patterns in which -0 lies below +0 (R278). -/
def key (a : Word) : Int :=
  let m : Int := (a &&& 0x7FFFFFFF#32).toNat
  if sign a then -m - 1 else m

/-- `fminmax32` (R278): the other operand for a NaN, else `pick`. -/
def minMax (a b : Word) (pick : Word) : Word × FpFlags :=
  if isNaN a && isNaN b then (cnan, nanFlags2 a b)
  else if isNaN a then (b, nanFlags2 a b)
  else if isNaN b then (a, nanFlags2 a b)
  else (pick, nanFlags2 a b)

/-- `fmin32(a, b)` (R278). -/
def fmin32 (a b : Word) : Word × FpFlags := minMax a b (if key a ≤ key b then a else b)

/-- `fmax32(a, b)` (R278). -/
def fmax32 (a b : Word) : Word × FpFlags := minMax a b (if key a ≥ key b then a else b)

/-- The extended real value of R279, times 2^149: an infinity lies beyond every finite value. -/
def ext (a : Word) : Int :=
  if isInf a then (if sign a then -(2 ^ 278) else 2 ^ 278) else num a

/-- An integer 0 or 1. -/
def bool01 (b : Bool) : Word := if b then 1#32 else 0#32

/-- `feq32(a, b)` (R279). -/
def feq32 (a b : Word) : Word × FpFlags :=
  if isNaN a || isNaN b then (0#32, nanFlags2 a b) else (bool01 (decide (ext a = ext b)), .empty)

/-- `flt32(a, b)` (R279). -/
def flt32 (a b : Word) : Word × FpFlags :=
  if isNaN a || isNaN b then (0#32, .onlyNv) else (bool01 (decide (ext a < ext b)), .empty)

/-- `fle32(a, b)` (R279). -/
def fle32 (a b : Word) : Word × FpFlags :=
  if isNaN a || isNaN b then (0#32, .onlyNv) else (bool01 (decide (ext a ≤ ext b)), .empty)

/-! ### Conversions and classification (R280 to R282) -/

/-- `fcvt_int(a, rm, lo, hi)` (R280). -/
def fcvtInt (a : Word) (rm : RoundingMode) (lo hi : Int) : Word × FpFlags :=
  if isNaN a then (BitVec.ofInt 32 hi, .onlyNv)
  else if isInf a then (BitVec.ofInt 32 (if sign a then lo else hi), .onlyNv)
  else
    let k := roundInt ⟨mag a, unit⟩ rm (sign a)
    let n : Int := if sign a then -(k : Int) else k
    if n < lo then (BitVec.ofInt 32 lo, .onlyNv)
    else if n > hi then (BitVec.ofInt 32 hi, .onlyNv)
    else (BitVec.ofInt 32 n, .inexact (n * unit != num a) false)

/-- `fcvt_w32(a, rm)` (R280). -/
def fcvtW32 (a : Word) (rm : RoundingMode) : Word × FpFlags := fcvtInt a rm (-(2 ^ 31)) (2 ^ 31 - 1)

/-- `fcvt_wu32(a, rm)` (R280). -/
def fcvtWu32 (a : Word) (rm : RoundingMode) : Word × FpFlags := fcvtInt a rm 0 (2 ^ 32 - 1)

/-- `fcvt_s_w(x, rm)` (R281). -/
def fcvtSW (x : Word) (rm : RoundingMode) : Word × FpFlags :=
  if x.toInt = 0 then (0#32, .empty) else roundSigned x.toInt 1 rm

/-- `fcvt_s_wu(x, rm)` (R281). -/
def fcvtSWu (x : Word) (rm : RoundingMode) : Word × FpFlags :=
  if x.toNat = 0 then (0#32, .empty) else round32 false ⟨x.toNat, 1⟩ rm

/-- `fclass32(a)` (R282): one bit of ten. -/
def fclass32 (a : Word) : Word :=
  if isSNaN a then 0x100#32
  else if isNaN a then 0x200#32
  else if isInf a then (if sign a then 0x001#32 else 0x080#32)
  else if isZero a then (if sign a then 0x008#32 else 0x010#32)
  else if isSub a then (if sign a then 0x004#32 else 0x020#32)
  else (if sign a then 0x002#32 else 0x040#32)

end Sys2Proof.Machine.Fp
end

