-- ==== Sys2Proof/Machine/FloatArith.lean ====
section
/-! DEFINITION. Floating-point load, store, fused multiply-add and arithmetic (45_fp_instructions.md R301 to R311). -/

namespace Sys2Proof.Machine

/-- `f32[rd] <- r; accrue(F); pc <- pc + 4` (R327). -/
def finishF (rd : FReg) (rF : Word × FpFlags) (s : State) : State := ((s.setF32 rd rF.1).accrue rF.2).advance

/-- `x[rd] <- r; accrue(F); pc <- pc + 4` (R327): the flags accrue also for `rd = x0`. -/
def finishX (rd : XReg) (rF : Word × FpFlags) (s : State) : State := ((s.setX rd rF.1).accrue rF.2).advance

/-- FLW (R301). The pattern is not interpreted; no flag (D35). -/
def execFlw (rd : FReg) (rs1 : XReg) (imm : Word) (s : State) : Result :=
  loadThen .word (s.effAddr rs1 imm) (fun v => State.setF32 rd v) s

/-- FSW (R302). The low 32 bits of `f[rs2]`. -/
def execFsw (rs1 : XReg) (rs2 : FReg) (imm : Word) (s : State) : Result :=
  storeThen .word (s.effAddr rs1 imm) (s.readF32 rs2) s

/-- FMADD.S (R303). `(rs1 * rs2) + rs3`, one rounding. -/
def execFmaddS (rd rs1 rs2 rs3 : FReg) (rm : RmField) (s : State) : Result :=
  withMode rm (fun m => finishF rd (Fp.fma32 (s.readF32 rs1) (s.readF32 rs2) (s.readF32 rs3) m false false)) s

/-- FMSUB.S (R304). `(rs1 * rs2) - rs3`, one rounding. -/
def execFmsubS (rd rs1 rs2 rs3 : FReg) (rm : RmField) (s : State) : Result :=
  withMode rm (fun m => finishF rd (Fp.fma32 (s.readF32 rs1) (s.readF32 rs2) (s.readF32 rs3) m false true)) s

/-- FNMSUB.S (R305). `-(rs1 * rs2) + rs3`, one rounding. -/
def execFnmsubS (rd rs1 rs2 rs3 : FReg) (rm : RmField) (s : State) : Result :=
  withMode rm (fun m => finishF rd (Fp.fma32 (s.readF32 rs1) (s.readF32 rs2) (s.readF32 rs3) m true false)) s

/-- FNMADD.S (R306). `-(rs1 * rs2) - rs3`, one rounding. -/
def execFnmaddS (rd rs1 rs2 rs3 : FReg) (rm : RmField) (s : State) : Result :=
  withMode rm (fun m => finishF rd (Fp.fma32 (s.readF32 rs1) (s.readF32 rs2) (s.readF32 rs3) m true true)) s

/-- FADD.S (R307). Sum. -/
def execFaddS (rd rs1 rs2 : FReg) (rm : RmField) (s : State) : Result :=
  withMode rm (fun m => finishF rd (Fp.fadd32 (s.readF32 rs1) (s.readF32 rs2) m)) s

/-- FSUB.S (R308). `rs1 - rs2`. -/
def execFsubS (rd rs1 rs2 : FReg) (rm : RmField) (s : State) : Result :=
  withMode rm (fun m => finishF rd (Fp.fsub32 (s.readF32 rs1) (s.readF32 rs2) m)) s

/-- FMUL.S (R309). Product. -/
def execFmulS (rd rs1 rs2 : FReg) (rm : RmField) (s : State) : Result :=
  withMode rm (fun m => finishF rd (Fp.fmul32 (s.readF32 rs1) (s.readF32 rs2) m)) s

/-- FDIV.S (R310). `rs1 / rs2`; never traps (R288). -/
def execFdivS (rd rs1 rs2 : FReg) (rm : RmField) (s : State) : Result :=
  withMode rm (fun m => finishF rd (Fp.fdiv32 (s.readF32 rs1) (s.readF32 rs2) m)) s

/-- FSQRT.S (R311). Square root. -/
def execFsqrtS (rd rs1 : FReg) (rm : RmField) (s : State) : Result :=
  withMode rm (fun m => finishF rd (Fp.fsqrt32 (s.readF32 rs1) m)) s

end Sys2Proof.Machine
end

