-- ==== Sys2Proof/Machine/FloatMove.lean ====
section
/-! DEFINITION. Sign injection, minimum and maximum, conversions, moves, comparisons, classification (45_fp_instructions.md R312 to R326). -/

namespace Sys2Proof.Machine

/-- FSGNJ.S (R312). Sign of `rs2`; no flag (D35). -/
def execFsgnjS (rd rs1 rs2 : FReg) (s : State) : Result :=
  writeF rd ((s.readF32 rs1 &&& 0x7FFFFFFF#32) ||| (s.readF32 rs2 &&& 0x80000000#32)) s

/-- FSGNJN.S (R313). Inverted sign of `rs2`; no flag (D35). -/
def execFsgnjnS (rd rs1 rs2 : FReg) (s : State) : Result :=
  writeF rd ((s.readF32 rs1 &&& 0x7FFFFFFF#32) ||| (~~~(s.readF32 rs2) &&& 0x80000000#32)) s

/-- FSGNJX.S (R314). Exclusive or of the signs; no flag (D35). -/
def execFsgnjxS (rd rs1 rs2 : FReg) (s : State) : Result :=
  writeF rd (s.readF32 rs1 ^^^ (s.readF32 rs2 &&& 0x80000000#32)) s

/-- FMIN.S (R315). Minimum; NV for a signalling NaN (D29). -/
def execFminS (rd rs1 rs2 : FReg) (s : State) : Result :=
  .next (finishF rd (Fp.fmin32 (s.readF32 rs1) (s.readF32 rs2)) s)

/-- FMAX.S (R316). Maximum; NV for a signalling NaN (D29). -/
def execFmaxS (rd rs1 rs2 : FReg) (s : State) : Result :=
  .next (finishF rd (Fp.fmax32 (s.readF32 rs1) (s.readF32 rs2)) s)

/-- FCVT.W.S (R317). Float to signed integer, saturating. -/
def execFcvtWS (rd : XReg) (rs1 : FReg) (rm : RmField) (s : State) : Result :=
  withMode rm (fun m => finishX rd (Fp.fcvtW32 (s.readF32 rs1) m)) s

/-- FCVT.WU.S (R318). Float to unsigned integer, saturating. -/
def execFcvtWuS (rd : XReg) (rs1 : FReg) (rm : RmField) (s : State) : Result :=
  withMode rm (fun m => finishX rd (Fp.fcvtWu32 (s.readF32 rs1) m)) s

/-- FMV.X.W (R319). The pattern, not interpreted; no flag (D35). -/
def execFmvXW (rd : XReg) (rs1 : FReg) (s : State) : Result :=
  writeX rd (s.readF32 rs1) s

/-- FEQ.S (R320). Equal. -/
def execFeqS (rd : XReg) (rs1 rs2 : FReg) (s : State) : Result :=
  .next (finishX rd (Fp.feq32 (s.readF32 rs1) (s.readF32 rs2)) s)

/-- FLT.S (R321). `rs1 < rs2`. -/
def execFltS (rd : XReg) (rs1 rs2 : FReg) (s : State) : Result :=
  .next (finishX rd (Fp.flt32 (s.readF32 rs1) (s.readF32 rs2)) s)

/-- FLE.S (R322). `rs1 <= rs2`. -/
def execFleS (rd : XReg) (rs1 rs2 : FReg) (s : State) : Result :=
  .next (finishX rd (Fp.fle32 (s.readF32 rs1) (s.readF32 rs2)) s)

/-- FCLASS.S (R323). The class, one bit of ten; no flag (D35). -/
def execFclassS (rd : XReg) (rs1 : FReg) (s : State) : Result :=
  writeX rd (Fp.fclass32 (s.readF32 rs1)) s

/-- FCVT.S.W (R324). Signed integer to float. -/
def execFcvtSW (rd : FReg) (rs1 : XReg) (rm : RmField) (s : State) : Result :=
  withMode rm (fun m => finishF rd (Fp.fcvtSW (s.readX rs1) m)) s

/-- FCVT.S.WU (R325). Unsigned integer to float. -/
def execFcvtSWu (rd : FReg) (rs1 : XReg) (rm : RmField) (s : State) : Result :=
  withMode rm (fun m => finishF rd (Fp.fcvtSWu (s.readX rs1) m)) s

/-- FMV.W.X (R326). The pattern, not interpreted; no flag (D35). -/
def execFmvWX (rd : FReg) (rs1 : XReg) (s : State) : Result :=
  writeF rd (s.readX rs1) s

end Sys2Proof.Machine
end

