-- ==== Sys2Proof/Machine/LoadStore.lean ====
section
/-! DEFINITION. Integer loads and stores (41_integer.md R160 to R167, R192, R193). -/

namespace Sys2Proof.Machine

/-- LB (R160). Sign-extended byte. -/
def execLb (rd rs1 : XReg) (imm : Word) (s : State) : Result :=
  loadThen .byte (s.effAddr rs1 imm) (fun v => State.setX rd ((v.extractLsb' 0 8).signExtend 32)) s

/-- LH (R161). Sign-extended halfword. -/
def execLh (rd rs1 : XReg) (imm : Word) (s : State) : Result :=
  loadThen .halfword (s.effAddr rs1 imm) (fun v => State.setX rd ((v.extractLsb' 0 16).signExtend 32)) s

/-- LW (R162). Full width. -/
def execLw (rd rs1 : XReg) (imm : Word) (s : State) : Result :=
  loadThen .word (s.effAddr rs1 imm) (fun v => State.setX rd v) s

/-- LBU (R163). Zero-extended byte. -/
def execLbu (rd rs1 : XReg) (imm : Word) (s : State) : Result :=
  loadThen .byte (s.effAddr rs1 imm) (fun v => State.setX rd ((v.extractLsb' 0 8).setWidth 32)) s

/-- LHU (R164). Zero-extended halfword. -/
def execLhu (rd rs1 : XReg) (imm : Word) (s : State) : Result :=
  loadThen .halfword (s.effAddr rs1 imm) (fun v => State.setX rd ((v.extractLsb' 0 16).setWidth 32)) s

/-- SB (R165). The low byte of `rs2`. -/
def execSb (rs1 rs2 : XReg) (imm : Word) (s : State) : Result :=
  storeThen .byte (s.effAddr rs1 imm) (s.readX rs2) s

/-- SH (R166). The low halfword of `rs2`. -/
def execSh (rs1 rs2 : XReg) (imm : Word) (s : State) : Result :=
  storeThen .halfword (s.effAddr rs1 imm) (s.readX rs2) s

/-- SW (R167). All of `rs2`. -/
def execSw (rs1 rs2 : XReg) (imm : Word) (s : State) : Result :=
  storeThen .word (s.effAddr rs1 imm) (s.readX rs2) s

end Sys2Proof.Machine
end

