-- ==== Sys2Proof/Machine/MulDiv.lean ====
section
/-! DEFINITION. Multiplier and divider (42_muldiv.md R210 to R224), on mathematical integers as R220 asks. -/

namespace Sys2Proof.Machine

/-- The low word of a product (R210). -/
def mulLow (a b : Int) : Word := BitVec.ofInt 32 (a * b)

/-- The high word of a product: `(a * b) >> 32` rounded down, then truncated (R211 to R213, R220). -/
def mulHigh (a b : Int) : Word := BitVec.ofInt 32 ((a * b).fdiv (2 ^ 32))

/-- The signed quotient (R214): all ones for a zero divisor; else rounded toward zero and truncated, except the overflow case. -/
def divSigned (a b : Word) : Word :=
  if b.toInt = 0 then 0xFFFFFFFF#32
  else if a.toInt = -(2 ^ 31) ∧ b.toInt = -1 then 0x80000000#32
  else BitVec.ofInt 32 (a.toInt.tdiv b.toInt)

/-- The unsigned quotient (R215). -/
def divUnsigned (a b : Word) : Word :=
  if b.toNat = 0 then 0xFFFFFFFF#32 else BitVec.ofNat 32 (a.toNat / b.toNat)

/-- The signed remainder (R216): the dividend for a zero divisor, 0 in the overflow case, else `a - b * truncdiv(a, b)`. -/
def remSigned (a b : Word) : Word :=
  if b.toInt = 0 then a
  else if a.toInt = -(2 ^ 31) ∧ b.toInt = -1 then 0#32
  else BitVec.ofInt 32 (a.toInt - b.toInt * a.toInt.tdiv b.toInt)

/-- The unsigned remainder (R217). -/
def remUnsigned (a b : Word) : Word :=
  if b.toNat = 0 then a else BitVec.ofNat 32 (a.toNat % b.toNat)

/-- MUL (R210). Low word of the signed product. -/
def execMul (rd rs1 rs2 : XReg) (s : State) : Result :=
  writeX rd (mulLow (s.readX rs1).toInt (s.readX rs2).toInt) s

/-- MULH (R211). High word, signed by signed. -/
def execMulh (rd rs1 rs2 : XReg) (s : State) : Result :=
  writeX rd (mulHigh (s.readX rs1).toInt (s.readX rs2).toInt) s

/-- MULHSU (R212). High word, signed `rs1` by unsigned `rs2`. -/
def execMulhsu (rd rs1 rs2 : XReg) (s : State) : Result :=
  writeX rd (mulHigh (s.readX rs1).toInt (s.readX rs2).toNat) s

/-- MULHU (R213). High word, unsigned by unsigned. -/
def execMulhu (rd rs1 rs2 : XReg) (s : State) : Result :=
  writeX rd (mulHigh (s.readX rs1).toNat (s.readX rs2).toNat) s

/-- DIV (R214). Signed quotient; no trap (R219). -/
def execDiv (rd rs1 rs2 : XReg) (s : State) : Result :=
  writeX rd (divSigned (s.readX rs1) (s.readX rs2)) s

/-- DIVU (R215). Unsigned quotient; no trap (R219). -/
def execDivu (rd rs1 rs2 : XReg) (s : State) : Result :=
  writeX rd (divUnsigned (s.readX rs1) (s.readX rs2)) s

/-- REM (R216). Signed remainder; no trap (R219). -/
def execRem (rd rs1 rs2 : XReg) (s : State) : Result :=
  writeX rd (remSigned (s.readX rs1) (s.readX rs2)) s

/-- REMU (R217). Unsigned remainder; no trap (R219). -/
def execRemu (rd rs1 rs2 : XReg) (s : State) : Result :=
  writeX rd (remUnsigned (s.readX rs1) (s.readX rs2)) s

end Sys2Proof.Machine
end

