-- ==== Sys2Proof/Machine/System.lean ====
section
/-! DEFINITION. FENCE, ECALL, EBREAK and the CSR instructions (41_integer.md R187 to R189, 43_csr.md R235 to R240). -/

namespace Sys2Proof.Machine

/-- FENCE (R187). A no-op: `ignored` has no effect (R74, D18). -/
def execFence (_ignored : BitVec 25) (s : State) : Result :=
  .next s.advance

/-- ECALL (R188). Traps, or halts under `HALT_ON_ECALL` (60_exceptions.md R355, R373). -/
def execEcall (s : State) : Result :=
  .next (s.raise .ecall)

/-- EBREAK (R189). Always traps (60_exceptions.md R356, D39). -/
def execEbreak (s : State) : Result :=
  .next (s.raise .ebreak)

/-- CSRRW (R235). Always writes. -/
def execCsrrw (rd : XReg) (csr : CsrAddr) (rs1 : XReg) (s : State) : Result :=
  csrAccess rd csr (fun _ => some (s.readX rs1)) s

/-- CSRRS (R236). Sets bits; no write for `rs1 = x0` (R241). -/
def execCsrrs (rd : XReg) (csr : CsrAddr) (rs1 : XReg) (s : State) : Result :=
  csrAccess rd csr (fun old => if rs1 = 0#5 then none else some (old ||| s.readX rs1)) s

/-- CSRRC (R237). Clears bits; no write for `rs1 = x0` (R241). -/
def execCsrrc (rd : XReg) (csr : CsrAddr) (rs1 : XReg) (s : State) : Result :=
  csrAccess rd csr (fun old => if rs1 = 0#5 then none else some (old &&& ~~~(s.readX rs1))) s

/-- CSRRWI (R238). Always writes. -/
def execCsrrwi (rd : XReg) (csr : CsrAddr) (uimm : BitVec 5) (s : State) : Result :=
  csrAccess rd csr (fun _ => some (zextUimm uimm)) s

/-- CSRRSI (R239). Sets bits; no write for `uimm = 0` (R241). -/
def execCsrrsi (rd : XReg) (csr : CsrAddr) (uimm : BitVec 5) (s : State) : Result :=
  csrAccess rd csr (fun old => if uimm = 0#5 then none else some (old ||| zextUimm uimm)) s

/-- CSRRCI (R240). Clears bits; no write for `uimm = 0` (R241). -/
def execCsrrci (rd : XReg) (csr : CsrAddr) (uimm : BitVec 5) (s : State) : Result :=
  csrAccess rd csr (fun old => if uimm = 0#5 then none else some (old &&& ~~~(zextUimm uimm))) s

end Sys2Proof.Machine
end

