-- ==== Sys2Proof/Machine/Upper.lean ====
section
/-! DEFINITION. Upper immediates (41_integer.md R150, R151). -/

namespace Sys2Proof.Machine

/-- LUI (R150). The immediate, already in place. -/
def execLui (rd : XReg) (imm : Word) (s : State) : Result :=
  writeX rd imm s

/-- AUIPC (R151). The address of the AUIPC itself plus the immediate. -/
def execAuipc (rd : XReg) (imm : Word) (s : State) : Result :=
  writeX rd (s.pc + imm) s

end Sys2Proof.Machine
end

