-- ==== Sys2Proof/Machine/RunLoop.lean ====
section
/-! DEFINITION. The run loop's steps around the execution of an instruction (60_exceptions.md R360): halt conditions, interrupt
hook, fetch and decode, cycle count. -/

namespace Sys2Proof.Machine

/-- What an input answers at a cycle count, its free functions being `free` (log 3, log 4). -/
def TickInput.answer (free : Nat → Bool) (i : TickInput) (cycle : Nat) : Bool :=
  (match i.base with
    | .const b => b
    | .free n => free n) ^^ decide (cycle ∈ i.except)

/-- What `stop_req` answers at this tick (R371, D6). -/
def State.stopRequested (s : State) : Bool := s.stopReq.answer (fun n => Config.freeStopReq n s.cycle) s.cycle

/-- What `irq_pending` answers at this tick, from the cycle count and the state (R365, R367, D5). -/
def State.irqAnswers (s : State) : Bool := s.irqPending.answer (fun n => Config.freeIrqPending n s.cycle s) s.cycle

/-- Step 1 of a tick that finds the core running: the stop request, then the sentinel (R371, R374, R380). -/
def State.haltTest (s : State) : Option HaltReason :=
  if s.stopRequested then some .stopRequest
  else if s.cfg.haltPc = some s.pc then some .sentinel
  else none

/-- Step 2: when `irq_pending` answers true the tick enters the trap and goes on at `MTVEC` (R365, D41). -/
def State.interruptHook (s : State) : State :=
  if s.irqAnswers then s.raise .interrupt else s

/-- What steps 1 and 2 come to: the tick returns `Stopped` in a state, or goes on from a state. -/
inductive TickStart where
  | stopped (s : State)
  | running (s : State)
  deriving DecidableEq, Repr

/-- Steps 1 and 2 (R360): a halted core changes nothing (R370). -/
def State.beginTick (s : State) : TickStart :=
  if s.halted then .stopped s
  else match s.haltTest with
    | some r => .stopped (s.haltWith r)
    | none => .running s.interruptHook

/-- What steps 3 and 4 come to: an instruction to execute, or a raised kind already handled. -/
inductive Fetched where
  | instr (i : Instr) (s : State)
  | raised (s : State)
  deriving DecidableEq, Repr

/-- Steps 3 and 4 (R354, R351): `Fetch(pc)`, then decode. -/
def State.fetchDecode (s : State) : Fetched :=
  match s.memRead .instructionWord s.pc with
  | (none, t) => .raised (t.raise .accessFaultFetch)
  | (some w, t) =>
    match decode w with
    | .ok i => .instr i t
    | .rejected _ => .raised (t.raise .illegalInstruction)

/-- Step 6: the cycle counter (R364). -/
def State.endTick (s : State) : State := { s with cycle := s.cycle + 1 }

/-- Where the next fetch reads: at `MTVEC` when an interrupt is pending, else at `pc`. -/
def State.fetchAddr (s : State) : Word := if s.irqAnswers then s.cfg.mtvec else s.pc

/-- The input with the opposite answer at one cycle count. -/
def TickInput.flip (cycle : Nat) (i : TickInput) : TickInput :=
  { i with except := if cycle ∈ i.except then i.except.filter (· ≠ cycle) else cycle :: i.except }

/-- The input with an answer that no longer depends on the state: a free one becomes the constant `b`. -/
def TickInput.pinned (b : Bool) (i : TickInput) : TickInput :=
  match i.base with
  | .const _ => i
  | .free _ => ⟨.const b, []⟩

/-- The parameters with RAM over the whole address space unless the four bytes at `addr` are in RAM already. -/
def coverFetch (c : Config) (addr : Word) : Config :=
  if allInRam c addr 4 then c else { c with ramBase := 0#32, ramSize := 2 ^ 32 }

/-- The state made ready to fetch: whatever would keep the next tick from fetching from RAM at `fetchAddr` is taken out of its
way (a halt, a stop request at this tick, a sentinel at `pc`, RAM that lies elsewhere, a callback that would take the fetch, an interrupt hook
that could answer otherwise once the word is stored); everything else stays (log 13). A state that would fetch, and whose hook is
not free, is unchanged. -/
def State.readyToFetch (s : State) : State :=
  { s with
    halt := none
    stopReq := if s.stopRequested then s.stopReq.flip s.cycle else s.stopReq
    irqPending := s.irqPending.pinned s.irqAnswers
    cfg := coverFetch (if s.cfg.haltPc = some s.pc then { s.cfg with haltPc := none } else s.cfg) s.fetchAddr
    ext := if (s.reply (readReq s.fetchAddr .instructionWord)).handled then
        s.ext.map (fun p => { p with replies := .notHandled :: p.replies })
      else s.ext }

/-- A word in memory at the fetch address. -/
def State.placeWord (w : Word) (s : State) : State :=
  { s with memory := storeBytes s.fetchAddr w s.memory 4 }

end Sys2Proof.Machine
end

