-- ==== Sys2Proof/Machine/Step.lean ====
section
/-! DEFINITION. One step of the machine: one tick of the run loop (60_exceptions.md R360). -/

namespace Sys2Proof.Machine

/-- One tick (R360). A tick that returns `Stopped` answers the state it leaves and counts nothing; one that returns `Ran` counts
one cycle, whether the instruction completed, trapped or halted (R364). -/
def step (s : State) : Host.Outcome State Fault Refusal :=
  match s.beginTick with
  | .stopped t => .next t
  | .running t =>
    match t.fetchDecode with
    | .raised u => .next u.endTick
    | .instr i u =>
      match exec i u with
      | .next v => .next v.endTick
      | .fault r => .fault r
      | .refused r => .refused r

/-- The state with the instruction of `nbits` bits `w` stored where `step` fetches next, and nothing in the way of that fetch
(log 13). -/
def State.withFetchWord (s : State) (nbits w : Nat) : State :=
  s.readyToFetch.placeWord (BitVec.ofNat 32 (w % 2 ^ nbits))

end Sys2Proof.Machine
end

