-- ==== Sys2Proof/Safety.lean ====
section
/-! DEFINITION. The terms claims are stated in: what stays the same between two states, what an instruction that completes or
traps leaves, and the invariant of every tick boundary. All are said through the reads of registers, CSRs and bytes. -/

namespace Sys2Proof.Machine

/-- `trunc32` of an integer (00_scope.md R10): its value modulo 2^32 as a pattern. -/
def trunc32 (n : Int) : Word := BitVec.ofInt 32 n

/-- The signed reading of the `k`-bit pattern `n` (00_scope.md R10). -/
def signedNat (k n : Nat) : Int := if n < 2 ^ (k - 1) then (n : Int) else (n : Int) - 2 ^ k

/-! ### What stays the same -/

/-- Every integer register reads as before. -/
def SameX (s t : State) : Prop := ∀ r : XReg, t.readX r = s.readX r

/-- Every floating-point register reads as before, all 64 bits. -/
def SameF (s t : State) : Prop := ∀ r : FReg, t.readF r = s.readF r

/-- The cells of FFLAGS, FRM and FCSR are as before. -/
def SameFpCsr (s t : State) : Prop := t.fflags = s.fflags ∧ t.frm = s.frm ∧ t.fcsr = s.fcsr

/-- Every byte of RAM reads as before. -/
def SameRam (s t : State) : Prop := ∀ a : Nat, t.ramByte a = s.ramByte a

/-- The bookkeeping of the last trap is as before. -/
def SameTrap (s t : State) : Prop := t.trapPc = s.trapPc ∧ t.trapCause = s.trapCause

/-- What no instruction changes: the parameters, MISA, the privilege level, the cycle counter (step 6 counts, not the
instruction) and the host's inputs. -/
structure SameFixed (s t : State) : Prop where
  cfg : t.cfg = s.cfg
  misa : t.misa = s.misa
  priv : t.priv = s.priv
  cycle : t.cycle = s.cycle
  stopReq : t.stopReq = s.stopReq
  irqPending : t.irqPending = s.irqPending

/-- The run loop's state of an instruction that neither traps nor halts. -/
structure SameRun (s t : State) : Prop where
  fixed : SameFixed s t
  trap : SameTrap s t
  halt : t.halt = s.halt
  faultFlag : t.faultFlag = s.faultFlag

/-! ### What is written -/

/-- `x[rd]` reads `v` unless `rd` is 0, and every other register as before (10_state.md R21). -/
def XWritten (rd : XReg) (v : Word) (s t : State) : Prop :=
  ∀ r : XReg, t.readX r = if r = rd ∧ rd ≠ 0#5 then v else s.readX r

/-- `f[rd]` holds `v` below an upper half of ones, and every other register is as before (10_state.md R23, D31). -/
def FWritten (rd : FReg) (v : Word) (s t : State) : Prop :=
  ∀ r : FReg, t.readF r = if r = rd then 0xFFFFFFFF#32 ++ v else s.readF r

/-- The flags `F` are set in FFLAGS and FCSR, nothing is cleared, and FRM is as before (44_fp_numerics.md R275). -/
def Accrued (F : FpFlags) (s t : State) : Prop :=
  t.fflags = s.fflags ||| F.bits ∧ t.fcsr = s.fcsr ||| F.bits ∧ t.frm = s.frm

/-- The low `n` bytes of `v` are at `a .. a+n-1`, addresses modulo 2^32, and every other byte of RAM is as before. -/
def RamWritten (a v : Word) (n : Nat) (s t : State) : Prop :=
  (∀ i, i < n → t.ramByte (byteAddr a i) = v.extractLsb' (8 * i) 8) ∧
    ∀ b : Nat, (∀ i, i < n → b ≠ byteAddr a i) → t.ramByte b = s.ramByte b

/-- The callback, if present, was sent exactly the request `req` and used up one answer. -/
def ExtAsked (req : ExtRequest) (s t : State) : Prop :=
  t.ext = s.ext.map (·.after req)

/-! ### How an instruction ends -/

/-- The instruction completes with pc `target`, `x[rd] = v`, and nothing else changed. -/
def CompletesX (target : Word) (rd : XReg) (v : Word) (s : State) (res : Result) : Prop :=
  ∃ t, res = .next t ∧ t.pc = target ∧ XWritten rd v s t ∧ SameF s t ∧ SameFpCsr s t ∧ SameRam s t ∧ t.ext = s.ext ∧ SameRun s t

/-- The instruction completes with pc `target` and nothing else changed. -/
def CompletesPc (target : Word) (s : State) (res : Result) : Prop :=
  ∃ t, res = .next t ∧ t.pc = target ∧ SameX s t ∧ SameF s t ∧ SameFpCsr s t ∧ SameRam s t ∧ t.ext = s.ext ∧ SameRun s t

/-- The instruction completes at `pc + 4` with `f32[rd] = v`, the flags `F` accrued, and nothing else changed. -/
def CompletesF (rd : FReg) (v : Word) (F : FpFlags) (s : State) (res : Result) : Prop :=
  ∃ t, res = .next t ∧ t.pc = s.pc + 4#32 ∧ FWritten rd v s t ∧ Accrued F s t ∧ SameX s t ∧ SameRam s t ∧ t.ext = s.ext ∧ SameRun s t

/-- The instruction completes at `pc + 4` with `x[rd] = v`, the flags `F` accrued, and nothing else changed. -/
def CompletesXF (rd : XReg) (v : Word) (F : FpFlags) (s : State) (res : Result) : Prop :=
  ∃ t, res = .next t ∧ t.pc = s.pc + 4#32 ∧ XWritten rd v s t ∧ Accrued F s t ∧ SameF s t ∧ SameRam s t ∧ t.ext = s.ext ∧ SameRun s t

/-- A load from RAM completes: the callback, if present, was asked for the read and did not handle it. -/
def CompletesLoadX (req : ExtRequest) (rd : XReg) (v : Word) (s : State) (res : Result) : Prop :=
  ∃ t, res = .next t ∧ t.pc = s.pc + 4#32 ∧ XWritten rd v s t ∧ SameF s t ∧ SameFpCsr s t ∧ SameRam s t ∧ ExtAsked req s t ∧ SameRun s t

/-- The same for a load into a floating-point register. -/
def CompletesLoadF (req : ExtRequest) (rd : FReg) (v : Word) (s : State) (res : Result) : Prop :=
  ∃ t, res = .next t ∧ t.pc = s.pc + 4#32 ∧ FWritten rd v s t ∧ SameX s t ∧ SameFpCsr s t ∧ SameRam s t ∧ ExtAsked req s t ∧ SameRun s t

/-- A store to RAM of the low `n` bytes of `v` at `a` completes, and nothing else changed. -/
def CompletesStore (req : ExtRequest) (a v : Word) (n : Nat) (s : State) (res : Result) : Prop :=
  ∃ t, res = .next t ∧ t.pc = s.pc + 4#32 ∧ RamWritten a v n s t ∧ SameX s t ∧ SameF s t ∧ SameFpCsr s t ∧ ExtAsked req s t ∧ SameRun s t

/-- A store that the callback takes completes: RAM is untouched. -/
def CompletesStoreExt (req : ExtRequest) (s : State) (res : Result) : Prop :=
  ∃ t, res = .next t ∧ t.pc = s.pc + 4#32 ∧ SameRam s t ∧ SameX s t ∧ SameF s t ∧ SameFpCsr s t ∧ ExtAsked req s t ∧ SameRun s t

/-- The state after `TrapEntry(kind)` (60_exceptions.md R357): the three writes, and nothing else; `fault_flag` and the callback
are said apart. -/
structure Trapped (kind : TrapCause) (s t : State) : Prop where
  pc : t.pc = s.cfg.mtvec
  trapPc : t.trapPc = s.pc
  trapCause : t.trapCause = some kind
  x : SameX s t
  f : SameF s t
  fpCsr : SameFpCsr s t
  ram : SameRam s t
  halt : t.halt = s.halt
  fixed : SameFixed s t

/-- The instruction traps with a kind that no memory access raised. -/
def Traps (kind : TrapCause) (s : State) (res : Result) : Prop :=
  ∃ t, res = .next t ∧ Trapped kind s t ∧ t.faultFlag = s.faultFlag ∧ t.ext = s.ext

/-- The instruction traps because its one access, `req`, was not served; the fault flag is consumed (R353). -/
def TrapsOnAccess (kind : TrapCause) (req : ExtRequest) (s : State) (res : Result) : Prop :=
  ∃ t, res = .next t ∧ Trapped kind s t ∧ t.faultFlag = false ∧ ExtAsked req s t

/-- The instruction halts the core and changes nothing else (R370). -/
def Halts (r : HaltReason) (s : State) (res : Result) : Prop :=
  ∃ t, res = .next t ∧ t.halt = some r ∧ t.pc = s.pc ∧ SameX s t ∧ SameF s t ∧ SameFpCsr s t ∧ SameRam s t ∧ SameTrap s t ∧
    SameFixed s t ∧ t.faultFlag = s.faultFlag ∧ t.ext = s.ext

/-! ### How an access is served (20_memory.md R63) -/

/-- The access of the request `q` goes to RAM, and every byte lies in it. -/
def ServedByRam (q : ExtRequest) (s : State) : Prop :=
  (s.reply q).handled = false ∧ ∀ i, i < q.type.bytes → inRam s.cfg (byteAddr q.addr i) = true

/-- The callback takes the access without a fault. -/
def ServedByExt (q : ExtRequest) (s : State) : Prop := (s.reply q).handled = true ∧ (s.reply q).fault = false

/-- The access is not served: the callback faults it, or nobody takes it and some byte is outside RAM. -/
def NotServed (q : ExtRequest) (s : State) : Prop :=
  ((s.reply q).handled = true ∧ (s.reply q).fault = true) ∨
    ((s.reply q).handled = false ∧ ∃ i, i < q.type.bytes ∧ inRam s.cfg (byteAddr q.addr i) = false)

/-- The bytes of RAM `a .. a+n-1` as a little-endian number (R65, R68). -/
def State.leNat (s : State) (a : Word) : Nat → Nat
  | 0 => 0
  | n + 1 => s.leNat a n + 256 ^ n * (s.ramByte (byteAddr a n)).toNat

/-! ### CSR writes (43_csr.md R233, R234) -/

/-- The three floating-point cells after `csr_write` of `w` to the CSR `c`, the aliases synchronised. -/
def CsrStored (c : Csr) (w : Word) (s t : State) : Prop :=
  match c with
  | .fflags => t.fflags = (s.fflags &&& ~~~0x1F#32) ||| (w &&& 0x1F#32) ∧ t.frm = s.frm ∧
      t.fcsr = (s.fcsr &&& ~~~0x1F#32) ||| (w &&& 0x1F#32)
  | .frm => t.fflags = s.fflags ∧ t.frm = (s.frm &&& ~~~0x7#32) ||| (w &&& 0x7#32) ∧
      t.fcsr = (s.fcsr &&& ~~~0xE0#32) ||| ((w &&& 0x7#32) <<< 5)
  | .fcsr => t.fflags = w &&& 0x1F#32 ∧ t.frm = (w >>> 5) &&& 0x7#32 ∧ t.fcsr = (s.fcsr &&& ~~~0xFF#32) ||| (w &&& 0xFF#32)
  | .misa => SameFpCsr s t

/-- A CSR instruction completes: `x[rd]` takes the old value, `stored` is written if there is one, nothing else changes. -/
def CompletesCsr (c : Csr) (stored : Option Word) (rd : XReg) (s : State) (res : Result) : Prop :=
  ∃ t, res = .next t ∧ t.pc = s.pc + 4#32 ∧ XWritten rd (s.csrRead c) s t ∧ SameF s t ∧ SameRam s t ∧ t.ext = s.ext ∧
    SameRun s t ∧ (match stored with | none => SameFpCsr s t | some w => CsrStored c w s t)

/-! ### Rounding (44_fp_numerics.md R263) -/

/-- The mode rounds a magnitude of sign `s` down: toward zero, or toward the infinity on the other side. -/
abbrev RoundsDown (m : RoundingMode) (s : Bool) : Prop := m = .rtz ∨ (m = .rdn ∧ s = false) ∨ (m = .rup ∧ s = true)

/-- The mode rounds a magnitude of sign `s` up. -/
abbrev RoundsUp (m : RoundingMode) (s : Bool) : Prop := (m = .rdn ∧ s = true) ∨ (m = .rup ∧ s = false)

/-- The mode picks the nearer neighbour. -/
abbrev RoundsNear (m : RoundingMode) : Prop := m = .rne ∨ m = .rmm

/-- The integer `n` is `v / 2^149` rounded in the mode `m`: a tie goes to the even one (RNE) or to the larger magnitude (RMM). -/
abbrev RoundedInt (m : RoundingMode) (v n : Int) : Prop :=
  (m = .rtz → n = v.tdiv (2 ^ 149)) ∧ (m = .rdn → n = v / 2 ^ 149) ∧ (m = .rup → n = -(-v / 2 ^ 149)) ∧
  (RoundsNear m → 2 * (n * 2 ^ 149 - v).natAbs ≤ 2 ^ 149) ∧
  (m = .rne → 2 * (n * 2 ^ 149 - v).natAbs = 2 ^ 149 → n % 2 = 0) ∧
  (m = .rmm → 2 * (n * 2 ^ 149 - v).natAbs = 2 ^ 149 → v.natAbs < (n * 2 ^ 149).natAbs)

/-- A pattern that is neither a NaN nor an infinity. -/
abbrev IsFinite (a : Word) : Prop := Fp.isNaN a = false ∧ Fp.isInf a = false

/-- The flags of a result that is exact or not, and nothing else. -/
def nxIf (b : Bool) : FpFlags := ⟨false, false, false, false, b⟩

/-! ### The invariant of a tick boundary (10_state.md R40) -/

/-- The alias invariant (R32), with the reserved bits of the three cells zero (R29, R30, R31). -/
structure FpCsrInv (s : State) : Prop where
  fflags : s.fflags.toNat < 32
  frm : s.frm.toNat < 8
  fcsr : s.fcsr.toNat = s.frm.toNat * 32 + s.fflags.toNat

/-- What holds at every tick boundary. -/
structure State.Inv (s : State) : Prop where
  cfg : s.cfg.wf
  memory : Memory.wf s.memory
  inRam : ∀ c ∈ s.memory, inRam s.cfg c.1 = true
  x0 : s.x[0] = 0#32
  fpCsr : FpCsrInv s
  misa : s.misa = 0x40001120#32
  faultFlag : s.faultFlag = false

/-- The tick passes step 1 (R360): not halted, no stop request, not at the sentinel. -/
structure PassesStepOne (s : State) : Prop where
  running : s.halted = false
  noStop : s.stopRequested = false
  noSentinel : s.cfg.haltPc ≠ some s.pc

/-- The tick answers `u` with one cycle more (R364). -/
def TickEnds (u : State) (res : Result) : Prop := res = .next { u with cycle := u.cycle + 1 }

end Sys2Proof.Machine

namespace Sys2Proof

/-! ### Families of instructions -/

/-- The six CSR instructions. -/
def Instr.isCsr : Instr → Bool
  | .csrrw .. | .csrrs .. | .csrrc .. | .csrrwi .. | .csrrsi .. | .csrrci .. => true
  | _ => false

/-- The four stores. -/
def Instr.isStore : Instr → Bool
  | .sb .. | .sh .. | .sw .. | .fsw .. => true
  | _ => false

/-- The one kind an instruction can raise when it executes, if there is one (60_exceptions.md R381). -/
def Instr.raises : Instr → Option Machine.TrapCause
  | .lb .. | .lh .. | .lw .. | .lbu .. | .lhu .. | .flw .. => some .accessFaultLoad
  | .sb .. | .sh .. | .sw .. | .fsw .. => some .accessFaultStore
  | .csrrw .. | .csrrs .. | .csrrc .. | .csrrwi .. | .csrrsi .. | .csrrci .. => some .illegalCsr
  | .fmaddS .. | .fmsubS .. | .fnmsubS .. | .fnmaddS .. | .faddS .. | .fsubS .. | .fmulS .. | .fdivS .. | .fsqrtS ..
  | .fcvtWS .. | .fcvtWuS .. | .fcvtSW .. | .fcvtSWu .. => some .illegalInstruction
  | .ecall => some .ecall
  | .ebreak => some .ebreak
  | _ => none

end Sys2Proof
end

