-- ==== Sys2Proof/Certificates/Slice0/Obligations.lean ====
section
/-! DEFINITION. The statements for the provers. A docstring names the rule of spec/ a statement formalises; where a clause rests
on a choice of the model or on a decision of the spec, it names that too. -/

open Sys2Proof Sys2Proof.Machine

/-! ### Encoding -/

/-- Words of the spec's own examples decode to the instructions they stand for (41_integer.md, 42_muldiv.md, 43_csr.md,
45_fp_instructions.md). A sanity statement. -/
def Obligations.DecodeOfExampleWords : Prop :=
  decode 0xABCDE2B7#32 = .ok (.lui 5#5 0xABCDE000#32) ∧
  decode 0xFFFFF297#32 = .ok (.auipc 5#5 0xFFFFF000#32) ∧
  decode 0xFF9FF0EF#32 = .ok (.jal 1#5 0xFFFFFFF8#32) ∧
  decode 0xFFC30367#32 = .ok (.jalr 6#5 6#5 0xFFFFFFFC#32 0#3) ∧
  decode 0x80000063#32 = .ok (.beq 0#5 0#5 0xFFFFF000#32) ∧
  decode 0xFFC2A383#32 = .ok (.lw 7#5 5#5 0xFFFFFFFC#32) ∧
  decode 0xFE62AFA3#32 = .ok (.sw 5#5 6#5 0xFFFFFFFF#32) ∧
  decode 0xFF628393#32 = .ok (.addi 7#5 5#5 0xFFFFFFF6#32) ∧
  decode 0x01F2D393#32 = .ok (.srli 7#5 5#5 31#5) ∧
  decode 0x406283B3#32 = .ok (.sub 7#5 5#5 6#5) ∧
  decode 0x0000100F#32 = .ok (.fence 0x0000020#25) ∧
  decode 0x00000073#32 = .ok .ecall ∧
  decode 0x0262A3B3#32 = .ok (.mulhsu 7#5 5#5 6#5) ∧
  decode 0x003293F3#32 = .ok (.csrrw 7#5 0x003#12 5#5) ∧
  decode 0x0022D3F3#32 = .ok (.csrrwi 7#5 0x002#12 5#5) ∧
  decode 0x00652627#32 = .ok (.fsw 10#5 6#5 12#32) ∧
  decode 0x4062F3CB#32 = .ok (.fnmsubS 7#5 5#5 6#5 8#5 .dyn) ∧
  decode 0x0062C3D3#32 = .ok (.faddS 7#5 5#5 6#5 (.static .rmm)) ∧
  decode 0xE00293D3#32 = .ok (.fclassS 7#5 5#5) ∧
  decode 0xD01293D3#32 = .ok (.fcvtSWu 7#5 5#5 (.static .rtz))

/-- R90, R120 (D17): a word whose low two bits are not `11` is no instruction, and neither is a word of an unpopulated cell that
the spec lists: all ones, MRET, SRET, WFI, static rounding modes 5 and 6, and the OP-FP selectors of R337. -/
def Obligations.UnpopulatedCellsAreIllegal : Prop :=
  (∀ w : Word, w.extractLsb' 0 2 ≠ 0b11#2 → ∃ r, decode w = .rejected r) ∧
  (∀ w ∈ [0xFFFFFFFF#32, 0x30200073#32, 0x10200073#32, 0x10500073#32, 0x0062D3D3#32, 0x0062E3D3#32, 0x026283D3#32, 0x581283D3#32,
      0xC02283D3#32, 0xE01283D3#32, 0x2062B3D3#32, 0x2862A3D3#32, 0xA062B3D3#32, 0xE002A3D3#32, 0xF00293D3#32, 0x426283C3#32],
    ∃ r, decode w = .rejected r)

/-- Decoding the word of a well-formed instruction gives it back, every operand at every value its encoding admits
(30_encoding.md R91 to R110). That the bits MISC-MEM and JALR ignore are such an operand is the model's choice (log 6). -/
def Obligations.DecodeOfEncodeIsIdentity : Prop :=
  ∀ i : Instr, i.wf = true → decode (encode i) = .ok i

/-- A word that decodes is the encoding of what it decodes to, which is well formed (R130: decode is a function of the word alone). That
no bit of a word is dropped is the model's choice: MISC-MEM and JALR ignore bits (R121, R134), and the syntax keeps them as an operand
without effect (log 6), so that encode inverts decode. -/
def Obligations.EncodeOfDecodeIsIdentity : Prop :=
  ∀ (w : Word) (i : Instr), decode w = .ok i → encode i = w ∧ i.wf = true

/-- R133, R111: decode is the row of the opcode table whose fixed bits agree and whose constraint holds, with its mnemonic and its format
tag, and `Illegal`, with the format tag `ILLEGAL`, when there is none; rows of one word are one row. -/
def Obligations.DecodeIsTheOpcodeTable : Prop :=
  ∀ w : Word,
    (∀ i, decode w = .ok i → ∃ r ∈ opcodeTable, r.covers w = true ∧ r.mnemonic = i.mnemonic ∧ r.format = i.format) ∧
    (∀ r ∈ opcodeTable, r.covers w = true → ∃ i, decode w = .ok i ∧ i.mnemonic = r.mnemonic ∧ i.format = r.format) ∧
    (∀ r ∈ opcodeTable, ∀ r' ∈ opcodeTable, r.covers w = true → r'.covers w = true → r = r') ∧
    ((decode w).format = .illegal ↔ ∀ r ∈ opcodeTable, r.covers w = false)

/-- R94 to R98: each immediate as a number made of the word's bit fields, its range, and the even ones. -/
def Obligations.ImmediatesAreTheirFields : Prop :=
  ∀ w : Word,
    (WordField.immI w).toInt = signedNat 12 (w.extractLsb' 20 12).toNat ∧
    (WordField.immS w).toInt = signedNat 12 ((w.extractLsb' 25 7).toNat * 32 + (w.extractLsb' 7 5).toNat) ∧
    (WordField.immB w).toInt = signedNat 13 ((w.extractLsb' 31 1).toNat * 4096 + (w.extractLsb' 7 1).toNat * 2048 +
      (w.extractLsb' 25 6).toNat * 32 + (w.extractLsb' 8 4).toNat * 2) ∧
    WordField.immU w = w &&& 0xFFFFF000#32 ∧
    (WordField.immJ w).toInt = signedNat 21 ((w.extractLsb' 31 1).toNat * 1048576 + (w.extractLsb' 12 8).toNat * 4096 +
      (w.extractLsb' 20 1).toNat * 2048 + (w.extractLsb' 21 10).toNat * 2) ∧
    (-2048 ≤ (WordField.immI w).toInt ∧ (WordField.immI w).toInt ≤ 2047) ∧
    (-2048 ≤ (WordField.immS w).toInt ∧ (WordField.immS w).toInt ≤ 2047) ∧
    (-4096 ≤ (WordField.immB w).toInt ∧ (WordField.immB w).toInt ≤ 4094 ∧ (WordField.immB w).toInt % 2 = 0) ∧
    (-1048576 ≤ (WordField.immJ w).toInt ∧ (WordField.immJ w).toInt ≤ 1048574 ∧ (WordField.immJ w).toInt % 2 = 0)

/-! ### Reset -/

/-- R39, R400 (D32, D42, D45): what construction leaves, for every parameter set and launch image, and the invariant there. That
`State.reset` is the construction of the reference instance with an empty image is the model's choice (log 1, log 13). -/
def Obligations.ConstructionLeavesResetValues : Prop :=
  (∀ (c : Config) (m : Memory),
    (∀ r, (State.construct c m).readX r = 0#32) ∧ (∀ r, (State.construct c m).readF r = 0#64) ∧
    (State.construct c m).pc = c.resetVector ∧ (State.construct c m).fflags = 0#32 ∧ (State.construct c m).frm = 0#32 ∧
    (State.construct c m).fcsr = 0#32 ∧ (State.construct c m).misa = 0x40001120#32 ∧ (State.construct c m).cycle = 0 ∧
    (State.construct c m).halted = false ∧ (State.construct c m).faultFlag = false ∧ (State.construct c m).trapPc = 0#32 ∧
    (State.construct c m).trapCause = none ∧ (State.construct c m).memory = m ∧ (State.construct c m).cfg = c ∧
    (c.wf → Memory.wf m → (∀ e ∈ m, inRam c e.1 = true) → (State.construct c m).Inv)) ∧
  State.reset = State.construct Config.reference [] ∧ State.reset.Inv

/-- R401 (D16, D42, D45): the reset command clears the registers except MISA, the halt and the trap bookkeeping, sets `pc`, keeps
memory, the cycle counter and the parameters, is idempotent, and keeps the invariant. -/
def Obligations.ResetCommandClearsAllButMisa : Prop :=
  ∀ s : State,
    (∀ r, s.resetCommand.readX r = 0#32) ∧ (∀ r, s.resetCommand.readF r = 0#64) ∧
    s.resetCommand.fflags = 0#32 ∧ s.resetCommand.frm = 0#32 ∧ s.resetCommand.fcsr = 0#32 ∧ s.resetCommand.misa = s.misa ∧
    s.resetCommand.pc = s.cfg.resetVector ∧ s.resetCommand.halt = none ∧ s.resetCommand.faultFlag = false ∧
    s.resetCommand.trapPc = 0#32 ∧ s.resetCommand.trapCause = none ∧
    s.resetCommand.memory = s.memory ∧ s.resetCommand.cycle = s.cycle ∧ s.resetCommand.cfg = s.cfg ∧
    s.resetCommand.resetCommand = s.resetCommand ∧ (s.Inv → s.resetCommand.Inv)

/-! ### The run loop -/

/-- R40, R32, R391 (L4, L8): the invariant of a tick boundary is kept by every step: RAM in canonical form and inside the RAM
range, `x[0] = 0`, the three floating-point CSR cells aliased with their reserved bits zero, MISA constant, the fault flag clear.
The canonical form is the model's own (log 2). -/
def Obligations.EveryStepKeepsTheInvariant : Prop :=
  ∀ s t : State, s.Inv → step s = .next t → t.Inv

/-- R350, R370 (D40): every condition the spec names is a trap or a halt, so every tick that runs ends in a next state. That a tick which
returns Stopped answers a next state too, and is no fault, is the model's choice (log 9). -/
def Obligations.EveryStepAnswersNext : Prop :=
  ∀ s : State, ∃ t, step s = .next t

/-- R363, R370 (D40), R371, R374, R380: a halted core is a fixed point; a stop request comes before the sentinel; each halts the
core with its reason and changes nothing else, cycle counter included. -/
def Obligations.HaltConditionsComeFirst : Prop :=
  (∀ s : State, s.halted = true → step s = .next s) ∧
  (∀ s : State, s.halted = false → s.stopRequested = true → step s = .next { s with halt := some .stopRequest }) ∧
  (∀ s : State, s.halted = false → s.stopRequested = false → s.cfg.haltPc = some s.pc → step s = .next { s with halt := some .sentinel })

/-- R364 (D42): a tick that passes step 1 counts one cycle, every other tick none. -/
def Obligations.CycleCounterCountsRanTicks : Prop :=
  ∀ s t : State, step s = .next t →
    (PassesStepOne s → t.cycle = s.cycle + 1) ∧ (¬ PassesStepOne s → t.cycle = s.cycle)

/-- R360: when the tick passes step 1, no interrupt is pending and the word at `pc` decodes to `i`, the step is `exec i`, plus the cycle
count. The word is the four bytes of RAM, or what the callback answers when it takes the fetch (D14). `u` is the state after the
fetch: `s` itself when there is no callback. That the callback is a port of answers is the model's choice (log 5). -/
def Obligations.StepRunsTheDecodedInstruction : Prop :=
  ∀ (s u : State) (i : Instr), PassesStepOne s → s.irqAnswers = false →
    (ServedByRam (readReq s.pc .instructionWord) s ∧
        (decodeBytes [s.ramByte (byteAddr s.pc 0), s.ramByte (byteAddr s.pc 1), s.ramByte (byteAddr s.pc 2),
        s.ramByte (byteAddr s.pc 3)]).1 = .ok i ∨
      ServedByExt (readReq s.pc .instructionWord) s ∧ decode (s.reply (readReq s.pc .instructionWord)).dataOut = .ok i) →
    u = { s with ext := s.ext.map (·.after (readReq s.pc .instructionWord)) } →
    (s.ext = none → u = s) ∧
    step s = (match exec i u with
      | .next v => .next { v with cycle := v.cycle + 1 }
      | .fault r => .fault r
      | .refused r => .refused r)

/-- R360, R365 (D41), R380: a pending interrupt enters the trap before the fetch, and the same tick runs the instruction at MTVEC. If
that fetch fails, or the word there is no instruction, that kind overwrites the bookkeeping and the interrupted `pc` is lost; under
`HALT_ON_RESERVED` (R372, D40) the illegal word halts the core at MTVEC with the bookkeeping of the interrupt. R367: nothing masks a
hook that keeps answering true: every next tick that passes step 1 is redirected too, and records the `pc` it finds. That an input is
plain data with free functions among its values is the model's choice (log 4). -/
def Obligations.InterruptRedirectsTheTick : Prop :=
  ∀ (s r : State), PassesStepOne s → s.irqAnswers = true →
    r = { s with trapPc := s.pc, trapCause := some .interrupt, pc := s.cfg.mtvec } →
    (∀ (w : Word) (u v : State) (i : Instr), r.memRead .instructionWord s.cfg.mtvec = (some w, u) → decode w = .ok i →
      exec i u = .next v → TickEnds v (step s)) ∧
    (NotServed (readReq s.cfg.mtvec .instructionWord) r →
      ∃ v, TickEnds v (step s) ∧ Trapped .accessFaultFetch r v ∧ v.trapPc = s.cfg.mtvec) ∧
    (∀ (w : Word) (u : State) (k : Reject), r.memRead .instructionWord s.cfg.mtvec = (some w, u) → decode w = .rejected k →
      (s.cfg.haltOnReserved = false →
        ∃ v, TickEnds v (step s) ∧ Trapped .illegalInstruction r v ∧ v.trapPc = s.cfg.mtvec ∧ v.faultFlag = s.faultFlag) ∧
      (s.cfg.haltOnReserved = true → ∃ v, TickEnds v (step s) ∧ v.halt = some .reservedInstruction ∧ v.pc = s.cfg.mtvec ∧
        v.trapPc = s.pc ∧ v.trapCause = some .interrupt ∧ SameX s v ∧ SameF s v ∧ SameFpCsr s v ∧ SameRam s v ∧ SameFixed s v ∧
        v.faultFlag = s.faultFlag)) ∧
    (s.irqPending = .always → ∀ t : State, step s = .next t → PassesStepOne t → t.irqPending = .always ∧ t.irqAnswers = true ∧
      t.interruptHook = { t with trapPc := t.pc, trapCause := some .interrupt, pc := s.cfg.mtvec })

/-- R354 (D13, D14): a fetch that is not served traps, and the tick counts. -/
def Obligations.FetchFaultTraps : Prop :=
  ∀ s : State, PassesStepOne s → s.irqAnswers = false → NotServed (readReq s.pc .instructionWord) s →
    ∃ u, TickEnds u (step s) ∧ Trapped .accessFaultFetch s u ∧ u.faultFlag = false ∧ ExtAsked (readReq s.pc .instructionWord) s u

/-- R351, R372 (D23, D40), R391 (L1): a word that is no instruction enters the trap, or halts the core under `HALT_ON_RESERVED`,
and changes nothing else. -/
def Obligations.IllegalWordTrapsOrHalts : Prop :=
  ∀ (s : State) (w : Word) (u : State) (r : Reject), PassesStepOne s → s.irqAnswers = false →
    s.memRead .instructionWord s.pc = (some w, u) → decode w = .rejected r →
    (s.cfg.haltOnReserved = false → ∃ v, TickEnds v (step s) ∧ Trapped .illegalInstruction s v ∧ v.faultFlag = s.faultFlag) ∧
    (s.cfg.haltOnReserved = true → ∃ v, TickEnds v (step s) ∧ v.halt = some .reservedInstruction ∧ v.pc = s.pc ∧ SameX s v ∧
      SameF s v ∧ SameFpCsr s v ∧ SameRam s v ∧ SameTrap s v ∧ SameFixed s v ∧ v.faultFlag = s.faultFlag)

/-- R361, R381 (D13, D26, D33): an instruction either completes, leaving the trap bookkeeping and the halt alone, or traps with the
one kind it can raise and none of its writes, or halts with none of its writes. -/
def Obligations.TrapsArePrecise : Prop :=
  ∀ (i : Instr) (s t : State), exec i s = .next t →
    (SameTrap s t ∧ t.halt = s.halt ∧ t.faultFlag = s.faultFlag) ∨
    (∃ k, i.raises = some k ∧ Trapped k s t) ∨
    (∃ r, (i.raises = some .illegalInstruction ∧ r = HaltReason.reservedInstruction ∧ s.cfg.haltOnReserved = true ∨
        i.raises = some .ecall ∧ r = HaltReason.ecall ∧ s.cfg.haltOnEcall = true) ∧ Halts r s (.next t))

/-- R33, R34, R38, R366: no step changes the parameters, MISA, the privilege level, or the two fields that stand for `stop_req` and
`irq_pending` (log 3, log 4). Of the third input of R360, the callback, this says nothing: a step uses up its answers (log 5). On
MISA this is for the states of any run and all others. -/
def Obligations.NoStepChangesWhatIsFixed : Prop :=
  ∀ s t : State, step s = .next t →
    t.cfg = s.cfg ∧ t.misa = s.misa ∧ t.priv = s.priv ∧ t.stopReq = s.stopReq ∧ t.irqPending = s.irqPending

/-- R29, R243: only a CSR instruction clears a flag or changes the rounding mode. -/
def Obligations.OnlyCsrInstructionsClearFlags : Prop :=
  ∀ (i : Instr) (s t : State), i.isCsr = false → exec i s = .next t →
    t.frm = s.frm ∧ t.fflags &&& s.fflags = s.fflags ∧ t.fcsr &&& s.fcsr = s.fcsr

/-- R36, R61, R73: no instruction but the four stores changes a byte of RAM. -/
def Obligations.OnlyStoresWriteRam : Prop :=
  ∀ (i : Instr) (s t : State), i.isStore = false → exec i s = .next t → SameRam s t

/-! ### Memory -/

/-- R65, R67: `MemRead` and `Fetch`. The callback first; a claimed access returns its low `8n` bits or faults; else the bytes of RAM
little-endian, or a fault when one is outside. Nothing but the callback's port and the fault flag changes. That the port is
plain data is the model's choice (log 5); that the flag is set by the access that is not served is R353 as the model reads it
(log 8). -/
def Obligations.MemReadFollowsItsRule : Prop :=
  ∀ (s : State) (a : Word) (type : AccessType) (q : ExtRequest), q = ⟨a, 0#32, type, false⟩ →
    ((s.reply q).handled = true → (s.reply q).fault = true → (s.memRead type a).1 = none) ∧
    ((s.reply q).handled = true → (s.reply q).fault = false →
      (s.memRead type a).1 = some (BitVec.ofNat 32 ((s.reply q).dataOut.toNat % 2 ^ (8 * type.bytes)))) ∧
    ((s.reply q).handled = false → (∃ i, i < type.bytes ∧ inRam s.cfg (byteAddr a i) = false) → (s.memRead type a).1 = none) ∧
    (ServedByRam q s → (s.memRead type a).1 = some (BitVec.ofNat 32 (s.leNat a type.bytes))) ∧
    s.leNat a type.bytes < 2 ^ (8 * type.bytes) ∧
    (s.memRead type a).2 = { s with
      ext := s.ext.map (·.after q)
      faultFlag := s.faultFlag || (s.memRead type a).1.isNone }

/-- R66: `MemWrite`. The callback first, which is shown the low `8n` bits; a claimed access writes no RAM; else the low `n` bytes
are stored, or nothing is written when one is outside. That the port is plain data is the model's choice (log 5); that the
fault flag is set by the access that is not served is R353 as the model reads it (log 8). -/
def Obligations.MemWriteFollowsItsRule : Prop :=
  ∀ (s : State) (a v : Word) (type : AccessType) (q : ExtRequest),
    q = ⟨a, BitVec.ofNat 32 (v.toNat % 2 ^ (8 * type.bytes)), type, true⟩ →
    ((s.reply q).handled = true → (s.memWrite type a v).1 = !(s.reply q).fault ∧ SameRam s (s.memWrite type a v).2) ∧
    ((s.reply q).handled = false → (∃ i, i < type.bytes ∧ inRam s.cfg (byteAddr a i) = false) →
      (s.memWrite type a v).1 = false ∧ SameRam s (s.memWrite type a v).2) ∧
    (ServedByRam q s → (s.memWrite type a v).1 = true ∧ RamWritten a v type.bytes s (s.memWrite type a v).2) ∧
    ExtAsked q s (s.memWrite type a v).2 ∧
    (s.memWrite type a v).2.faultFlag = (s.faultFlag || !(s.memWrite type a v).1) ∧
    (s.memWrite type a v).2.x = s.x ∧ (s.memWrite type a v).2.pc = s.pc

/-- R68: a mixed-width access sees the same bytes, the byte at the lowest address the least significant; with no callback, at any
address, the wrap at the top of the address space included. -/
def Obligations.MixedWidthAccessesSeeTheSameBytes : Prop :=
  ∀ (s t : State) (a v : Word), s.ext = none → ServedByRam (writeReq a v .word) s → t = (s.memWrite .word a v).2 →
    (t.memRead .byte a).1 = some (v &&& 0xFF#32) ∧
    (t.memRead .byte (a + 1#32)).1 = some ((v >>> 8) &&& 0xFF#32) ∧
    (t.memRead .byte (a + 2#32)).1 = some ((v >>> 16) &&& 0xFF#32) ∧
    (t.memRead .byte (a + 3#32)).1 = some (v >>> 24) ∧
    (t.memRead .halfword a).1 = some (v &&& 0xFFFF#32) ∧
    (t.memRead .halfword (a + 1#32)).1 = some ((v >>> 8) &&& 0xFFFF#32) ∧
    (t.memRead .halfword (a + 2#32)).1 = some (v >>> 16) ∧
    (t.memRead .word a).1 = some v ∧ (t.memRead .instructionWord a).1 = some v

/-! ### Integer instructions: result, frame and completion, the form `rd = x0` included -/

/-- R150, R151, with their encodings. -/
def Obligations.LuiAndAuipcComplete : Prop :=
  ∀ (s : State) (rd : XReg) (imm : Word),
    CompletesX (trunc32 (s.pc.toNat + 4)) rd imm s (exec (.lui rd imm) s) ∧
    CompletesX (trunc32 (s.pc.toNat + 4)) rd (trunc32 (s.pc.toNat + imm.toNat)) s (exec (.auipc rd imm) s) ∧
    encode (.lui rd imm) &&& 0x0000007F#32 = 0x00000037#32 ∧ encode (.auipc rd imm) &&& 0x0000007F#32 = 0x00000017#32 ∧
    (Instr.wf (.lui rd imm) = true → imm.toNat % 4096 = 0)

/-- R152, R153 (D11, D25): the link, and the target from the old value of `rs1` with bit 0 cleared; `ignored` has no effect. The
target formulas are marked as general knowledge by the spec. -/
def Obligations.JumpsLinkAndJump : Prop :=
  ∀ (s : State) (rd rs1 : XReg) (imm : Word) (ignored : BitVec 3),
    CompletesX (trunc32 (s.pc.toNat + imm.toNat)) rd (trunc32 (s.pc.toNat + 4)) s (exec (.jal rd imm) s) ∧
    CompletesX (trunc32 (2 * (((s.readX rs1).toNat + imm.toNat) / 2))) rd (trunc32 (s.pc.toNat + 4)) s
      (exec (.jalr rd rs1 imm ignored) s)

/-- R191, R154 to R159 (D11): each comparison, the two targets, and nothing else changed. -/
def Obligations.BranchesCompareAndJump : Prop :=
  ∀ (s : State) (rs1 rs2 : XReg) (imm taken fallThrough : Word),
    taken = trunc32 (s.pc.toNat + imm.toNat) → fallThrough = trunc32 (s.pc.toNat + 4) →
    CompletesPc (if (s.readX rs1).toNat = (s.readX rs2).toNat then taken else fallThrough) s (exec (.beq rs1 rs2 imm) s) ∧
    CompletesPc (if (s.readX rs1).toNat = (s.readX rs2).toNat then fallThrough else taken) s (exec (.bne rs1 rs2 imm) s) ∧
    CompletesPc (if (s.readX rs1).toInt < (s.readX rs2).toInt then taken else fallThrough) s (exec (.blt rs1 rs2 imm) s) ∧
    CompletesPc (if (s.readX rs1).toInt ≥ (s.readX rs2).toInt then taken else fallThrough) s (exec (.bge rs1 rs2 imm) s) ∧
    CompletesPc (if (s.readX rs1).toNat < (s.readX rs2).toNat then taken else fallThrough) s (exec (.bltu rs1 rs2 imm) s) ∧
    CompletesPc (if (s.readX rs1).toNat ≥ (s.readX rs2).toNat then taken else fallThrough) s (exec (.bgeu rs1 rs2 imm) s)

/-- R192, R160 to R164, R301 (D10, D31): a load whose bytes are all in RAM, and which no callback takes, completes with the bytes at
`x[rs1] + imm`, extended by its type, at any alignment. The effective-address formula is marked as general knowledge. -/
def Obligations.LoadsFromRamComplete : Prop :=
  ∀ (s : State) (rd rs1 : XReg) (fd : FReg) (imm a : Word), a = trunc32 ((s.readX rs1).toNat + imm.toNat) →
    (ServedByRam (readReq a .byte) s →
      CompletesLoadX (readReq a .byte) rd (trunc32 (signedNat 8 (s.leNat a 1))) s (exec (.lb rd rs1 imm) s) ∧
      CompletesLoadX (readReq a .byte) rd (trunc32 (s.leNat a 1)) s (exec (.lbu rd rs1 imm) s)) ∧
    (ServedByRam (readReq a .halfword) s →
      CompletesLoadX (readReq a .halfword) rd (trunc32 (signedNat 16 (s.leNat a 2))) s (exec (.lh rd rs1 imm) s) ∧
      CompletesLoadX (readReq a .halfword) rd (trunc32 (s.leNat a 2)) s (exec (.lhu rd rs1 imm) s)) ∧
    (ServedByRam (readReq a .word) s →
      CompletesLoadX (readReq a .word) rd (trunc32 (s.leNat a 4)) s (exec (.lw rd rs1 imm) s) ∧
      CompletesLoadF (readReq a .word) fd (trunc32 (s.leNat a 4)) s (exec (.flw fd rs1 imm) s))

/-- R353, R361 (D13, D26): a load that is not served traps and writes no register, `rd = x0` included. -/
def Obligations.UnservedLoadsTrap : Prop :=
  ∀ (s : State) (rd rs1 : XReg) (fd : FReg) (imm a : Word), a = trunc32 ((s.readX rs1).toNat + imm.toNat) →
    (NotServed (readReq a .byte) s →
      TrapsOnAccess .accessFaultLoad (readReq a .byte) s (exec (.lb rd rs1 imm) s) ∧
      TrapsOnAccess .accessFaultLoad (readReq a .byte) s (exec (.lbu rd rs1 imm) s)) ∧
    (NotServed (readReq a .halfword) s →
      TrapsOnAccess .accessFaultLoad (readReq a .halfword) s (exec (.lh rd rs1 imm) s) ∧
      TrapsOnAccess .accessFaultLoad (readReq a .halfword) s (exec (.lhu rd rs1 imm) s)) ∧
    (NotServed (readReq a .word) s →
      TrapsOnAccess .accessFaultLoad (readReq a .word) s (exec (.lw rd rs1 imm) s) ∧
      TrapsOnAccess .accessFaultLoad (readReq a .word) s (exec (.flw fd rs1 imm) s))

/-- R193, R165 to R167, R302 (D10): a store whose bytes are all in RAM, and which no callback takes, completes; for every address
that the operand form gives, the low bytes of the register are there, little-endian, and every other byte reads as before. -/
def Obligations.StoresToRamComplete : Prop :=
  ∀ (s : State) (rs1 rs2 : XReg) (fs2 : FReg) (imm a : Word), s.effAddr rs1 imm = a →
    a = trunc32 ((s.readX rs1).toNat + imm.toNat) ∧
    (ServedByRam (writeReq a (s.readX rs2) .byte) s →
      CompletesStore (writeReq a (s.readX rs2) .byte) a (s.readX rs2) 1 s (exec (.sb rs1 rs2 imm) s)) ∧
    (ServedByRam (writeReq a (s.readX rs2) .halfword) s →
      CompletesStore (writeReq a (s.readX rs2) .halfword) a (s.readX rs2) 2 s (exec (.sh rs1 rs2 imm) s)) ∧
    (ServedByRam (writeReq a (s.readX rs2) .word) s →
      CompletesStore (writeReq a (s.readX rs2) .word) a (s.readX rs2) 4 s (exec (.sw rs1 rs2 imm) s)) ∧
    (ServedByRam (writeReq a ((s.readF fs2).setWidth 32) .word) s →
      CompletesStore (writeReq a ((s.readF fs2).setWidth 32) .word) a ((s.readF fs2).setWidth 32) 4 s (exec (.fsw rs1 fs2 imm) s))

/-- R63 to R66, R160 to R167, R301, R302: an access that the callback takes completes wherever RAM lies: a load with the callback's
low bits, a store with no byte of RAM written. The answer may depend on the request, which names the access. That the callback is
plain data with free functions among its values is the model's choice (log 5). -/
def Obligations.CallbackAccessesComplete : Prop :=
  ∀ (s : State) (rd rs1 rs2 : XReg) (fd fs2 : FReg) (imm a d : Word), s.effAddr rs1 imm = a →
    (ServedByExt (readReq a .byte) s → d = (s.reply (readReq a .byte)).dataOut →
      CompletesLoadX (readReq a .byte) rd (trunc32 (signedNat 8 (d.toNat % 2 ^ 8))) s (exec (.lb rd rs1 imm) s) ∧
      CompletesLoadX (readReq a .byte) rd (trunc32 (d.toNat % 2 ^ 8 : Nat)) s (exec (.lbu rd rs1 imm) s)) ∧
    (ServedByExt (readReq a .halfword) s → d = (s.reply (readReq a .halfword)).dataOut →
      CompletesLoadX (readReq a .halfword) rd (trunc32 (signedNat 16 (d.toNat % 2 ^ 16))) s (exec (.lh rd rs1 imm) s) ∧
      CompletesLoadX (readReq a .halfword) rd (trunc32 (d.toNat % 2 ^ 16 : Nat)) s (exec (.lhu rd rs1 imm) s)) ∧
    (ServedByExt (readReq a .word) s → d = (s.reply (readReq a .word)).dataOut →
      CompletesLoadX (readReq a .word) rd d s (exec (.lw rd rs1 imm) s) ∧
      CompletesLoadF (readReq a .word) fd d s (exec (.flw fd rs1 imm) s)) ∧
    (ServedByExt (writeReq a (s.readX rs2) .byte) s →
      CompletesStoreExt (writeReq a (s.readX rs2) .byte) s (exec (.sb rs1 rs2 imm) s)) ∧
    (ServedByExt (writeReq a (s.readX rs2) .halfword) s →
      CompletesStoreExt (writeReq a (s.readX rs2) .halfword) s (exec (.sh rs1 rs2 imm) s)) ∧
    (ServedByExt (writeReq a (s.readX rs2) .word) s →
      CompletesStoreExt (writeReq a (s.readX rs2) .word) s (exec (.sw rs1 rs2 imm) s)) ∧
    (ServedByExt (writeReq a ((s.readF fs2).setWidth 32) .word) s →
      CompletesStoreExt (writeReq a ((s.readF fs2).setWidth 32) .word) s (exec (.fsw rs1 fs2 imm) s))

/-- R353, R361 (D13): a store that is not served traps and writes no byte, not even those inside RAM. -/
def Obligations.UnservedStoresTrap : Prop :=
  ∀ (s : State) (rs1 rs2 : XReg) (fs2 : FReg) (imm a : Word), s.effAddr rs1 imm = a →
    (NotServed (writeReq a (s.readX rs2) .byte) s →
      TrapsOnAccess .accessFaultStore (writeReq a (s.readX rs2) .byte) s (exec (.sb rs1 rs2 imm) s)) ∧
    (NotServed (writeReq a (s.readX rs2) .halfword) s →
      TrapsOnAccess .accessFaultStore (writeReq a (s.readX rs2) .halfword) s (exec (.sh rs1 rs2 imm) s)) ∧
    (NotServed (writeReq a (s.readX rs2) .word) s →
      TrapsOnAccess .accessFaultStore (writeReq a (s.readX rs2) .word) s (exec (.sw rs1 rs2 imm) s)) ∧
    (NotServed (writeReq a ((s.readF fs2).setWidth 32) .word) s →
      TrapsOnAccess .accessFaultStore (writeReq a ((s.readF fs2).setWidth 32) .word) s (exec (.fsw rs1 fs2 imm) s))

/-- R168 to R173, with their encodings. -/
def Obligations.AluImmediatesComplete : Prop :=
  ∀ (s : State) (rd rs1 : XReg) (imm next : Word), next = trunc32 (s.pc.toNat + 4) →
    CompletesX next rd (trunc32 ((s.readX rs1).toNat + imm.toNat)) s (exec (.addi rd rs1 imm) s) ∧
    CompletesX next rd (if (s.readX rs1).toInt < imm.toInt then 1#32 else 0#32) s (exec (.slti rd rs1 imm) s) ∧
    CompletesX next rd (if (s.readX rs1).toNat < imm.toNat then 1#32 else 0#32) s (exec (.sltiu rd rs1 imm) s) ∧
    CompletesX next rd (s.readX rs1 ^^^ imm) s (exec (.xori rd rs1 imm) s) ∧
    CompletesX next rd (s.readX rs1 ||| imm) s (exec (.ori rd rs1 imm) s) ∧
    CompletesX next rd (s.readX rs1 &&& imm) s (exec (.andi rd rs1 imm) s) ∧
    encode (.addi rd rs1 imm) &&& 0x0000707F#32 = 0x00000013#32 ∧ encode (.slti rd rs1 imm) &&& 0x0000707F#32 = 0x00002013#32 ∧
    encode (.sltiu rd rs1 imm) &&& 0x0000707F#32 = 0x00003013#32 ∧ encode (.xori rd rs1 imm) &&& 0x0000707F#32 = 0x00004013#32 ∧
    encode (.ori rd rs1 imm) &&& 0x0000707F#32 = 0x00006013#32 ∧ encode (.andi rd rs1 imm) &&& 0x0000707F#32 = 0x00007013#32 ∧
    encode (.addi 0#5 0#5 0#32) = 0x00000013#32 ∧ CompletesPc next s (exec (.addi 0#5 0#5 0#32) s)

/-- R174 to R176, R179, R183, R184, with their encodings: shifts as multiplication and rounded-down division by a power of two; a
register count is its value modulo 32. -/
def Obligations.ShiftsComplete : Prop :=
  ∀ (s : State) (rd rs1 rs2 : XReg) (shamt : BitVec 5) (next : Word) (k : Nat), next = trunc32 (s.pc.toNat + 4) →
    k = (s.readX rs2).toNat % 32 →
    CompletesX next rd (trunc32 ((s.readX rs1).toNat * 2 ^ shamt.toNat : Nat)) s (exec (.slli rd rs1 shamt) s) ∧
    CompletesX next rd (trunc32 ((s.readX rs1).toNat / 2 ^ shamt.toNat : Nat)) s (exec (.srli rd rs1 shamt) s) ∧
    CompletesX next rd (trunc32 ((s.readX rs1).toInt / 2 ^ shamt.toNat)) s (exec (.srai rd rs1 shamt) s) ∧
    CompletesX next rd (trunc32 ((s.readX rs1).toNat * 2 ^ k : Nat)) s (exec (.sll rd rs1 rs2) s) ∧
    CompletesX next rd (trunc32 ((s.readX rs1).toNat / 2 ^ k : Nat)) s (exec (.srl rd rs1 rs2) s) ∧
    CompletesX next rd (trunc32 ((s.readX rs1).toInt / 2 ^ k)) s (exec (.sra rd rs1 rs2) s) ∧
    encode (.slli rd rs1 shamt) &&& 0xFE00707F#32 = 0x00001013#32 ∧ encode (.srli rd rs1 shamt) &&& 0xFE00707F#32 = 0x00005013#32 ∧
    encode (.srai rd rs1 shamt) &&& 0xFE00707F#32 = 0x40005013#32 ∧ encode (.sll rd rs1 rs2) &&& 0xFE00707F#32 = 0x00001033#32 ∧
    encode (.srl rd rs1 rs2) &&& 0xFE00707F#32 = 0x00005033#32 ∧ encode (.sra rd rs1 rs2) &&& 0xFE00707F#32 = 0x40005033#32

/-- R177, R178, R180 to R182, R185, R186, with their encodings. -/
def Obligations.AluRegistersComplete : Prop :=
  ∀ (s : State) (rd rs1 rs2 : XReg) (next : Word), next = trunc32 (s.pc.toNat + 4) →
    CompletesX next rd (trunc32 ((s.readX rs1).toNat + (s.readX rs2).toNat)) s (exec (.add rd rs1 rs2) s) ∧
    CompletesX next rd (trunc32 ((s.readX rs1).toNat - (s.readX rs2).toNat)) s (exec (.sub rd rs1 rs2) s) ∧
    CompletesX next rd (if (s.readX rs1).toInt < (s.readX rs2).toInt then 1#32 else 0#32) s (exec (.slt rd rs1 rs2) s) ∧
    CompletesX next rd (if (s.readX rs1).toNat < (s.readX rs2).toNat then 1#32 else 0#32) s (exec (.sltu rd rs1 rs2) s) ∧
    CompletesX next rd (s.readX rs1 ^^^ s.readX rs2) s (exec (.xor rd rs1 rs2) s) ∧
    CompletesX next rd (s.readX rs1 ||| s.readX rs2) s (exec (.or rd rs1 rs2) s) ∧
    CompletesX next rd (s.readX rs1 &&& s.readX rs2) s (exec (.and rd rs1 rs2) s) ∧
    encode (.add rd rs1 rs2) &&& 0xFE00707F#32 = 0x00000033#32 ∧ encode (.sub rd rs1 rs2) &&& 0xFE00707F#32 = 0x40000033#32 ∧
    encode (.slt rd rs1 rs2) &&& 0xFE00707F#32 = 0x00002033#32 ∧ encode (.sltu rd rs1 rs2) &&& 0xFE00707F#32 = 0x00003033#32 ∧
    encode (.xor rd rs1 rs2) &&& 0xFE00707F#32 = 0x00004033#32 ∧ encode (.or rd rs1 rs2) &&& 0xFE00707F#32 = 0x00006033#32 ∧
    encode (.and rd rs1 rs2) &&& 0xFE00707F#32 = 0x00007033#32

/-- R187 (D18), R355, R356 (D39), R373: FENCE only advances `pc`; ECALL traps, or halts under `HALT_ON_ECALL`; EBREAK always
traps. -/
def Obligations.FenceEcallEbreakEnd : Prop :=
  ∀ (s : State) (ignored : BitVec 25),
    CompletesPc (trunc32 (s.pc.toNat + 4)) s (exec (.fence ignored) s) ∧
    (s.cfg.haltOnEcall = false → Traps .ecall s (exec .ecall s)) ∧
    (s.cfg.haltOnEcall = true → Halts .ecall s (exec .ecall s)) ∧
    Traps .ebreak s (exec .ebreak s)

/-! ### Multiplier and divider -/

/-- R210, R211, R213, with their encodings: the low word of the signed product, the high words of the signed and of the unsigned
product, the shift by 32 rounding down (R220). That the low word does not depend on the reading of the operands is R210's own
inference from R220. -/
def Obligations.MultipliesComplete : Prop :=
  ∀ (s : State) (rd rs1 rs2 : XReg) (next : Word), next = trunc32 (s.pc.toNat + 4) →
    CompletesX next rd (trunc32 ((s.readX rs1).toInt * (s.readX rs2).toInt)) s (exec (.mul rd rs1 rs2) s) ∧
    CompletesX next rd (trunc32 ((s.readX rs1).toInt * (s.readX rs2).toInt / 2 ^ 32)) s (exec (.mulh rd rs1 rs2) s) ∧
    CompletesX next rd (trunc32 ((s.readX rs1).toNat * (s.readX rs2).toNat / 2 ^ 32 : Nat)) s (exec (.mulhu rd rs1 rs2) s) ∧
    (∀ a b : Word, trunc32 (a.toInt * b.toInt) = trunc32 (a.toNat * b.toNat)) ∧
    encode (.mul rd rs1 rs2) &&& 0xFE00707F#32 = 0x02000033#32 ∧ encode (.mulh rd rs1 rs2) &&& 0xFE00707F#32 = 0x02001033#32 ∧
    encode (.mulhu rd rs1 rs2) &&& 0xFE00707F#32 = 0x02003033#32

/-- R215, R217, with their encodings: unsigned quotient and remainder; a zero divisor gives all ones and the dividend. -/
def Obligations.UnsignedDividesComplete : Prop :=
  ∀ (s : State) (rd rs1 rs2 : XReg) (next : Word) (a b : Nat), next = trunc32 (s.pc.toNat + 4) →
    a = (s.readX rs1).toNat → b = (s.readX rs2).toNat →
    CompletesX next rd (if b = 0 then 0xFFFFFFFF#32 else trunc32 (a / b : Nat)) s (exec (.divu rd rs1 rs2) s) ∧
    CompletesX next rd (if b = 0 then s.readX rs1 else trunc32 (a % b : Nat)) s (exec (.remu rd rs1 rs2) s) ∧
    encode (.divu rd rs1 rs2) &&& 0xFE00707F#32 = 0x02005033#32 ∧ encode (.remu rd rs1 rs2) &&& 0xFE00707F#32 = 0x02007033#32

/-- R212, R214, R216: the mixed high word; the signed quotient, whose magnitude is the quotient of the magnitudes rounded down and
whose sign is that of `a / b`, and the remainder that goes with it; the two corner cases. The mixed operand order and the rounding
toward zero are marked as general knowledge by the spec. -/
def Obligations.SignedDividesComplete : Prop :=
  ∀ (s : State) (rd rs1 rs2 : XReg) (next : Word) (a b q : Int), next = trunc32 (s.pc.toNat + 4) →
    a = (s.readX rs1).toInt → b = (s.readX rs2).toInt → q = a.sign * b.sign * (a.natAbs / b.natAbs : Nat) →
    CompletesX next rd (trunc32 (a * (s.readX rs2).toNat / 2 ^ 32)) s (exec (.mulhsu rd rs1 rs2) s) ∧
    CompletesX next rd
      (if b = 0 then 0xFFFFFFFF#32 else if a = -(2 ^ 31) ∧ b = -1 then 0x80000000#32 else trunc32 q) s (exec (.div rd rs1 rs2) s) ∧
    CompletesX next rd
      (if b = 0 then s.readX rs1 else if a = -(2 ^ 31) ∧ b = -1 then 0#32 else trunc32 (a - b * q)) s (exec (.rem rd rs1 rs2) s)

/-- R223 (derived by the spec), L1 to L7, L9, L10: quotient and remainder rebuild the dividend, zero divisor and overflow included;
the remainders are small; high and low words rebuild the products; the high words are related. -/
def Obligations.MulDivLawsHold : Prop :=
  ∀ a b : Word,
    divSigned a b * b + remSigned a b = a ∧
    divUnsigned a b * b + remUnsigned a b = a ∧
    (b ≠ 0#32 → (remUnsigned a b).toNat < b.toNat) ∧
    (b ≠ 0#32 → ¬ (a = 0x80000000#32 ∧ b = 0xFFFFFFFF#32) →
      (remSigned a b).toInt.natAbs < b.toInt.natAbs ∧ (remSigned a b = 0#32 ∨ ((remSigned a b).toInt < 0 ↔ a.toInt < 0))) ∧
    (mulHigh a.toNat b.toNat).toNat * 2 ^ 32 + (mulLow a.toInt b.toInt).toNat = a.toNat * b.toNat ∧
    (mulHigh a.toInt b.toInt).toInt * 2 ^ 32 + (mulLow a.toInt b.toInt).toNat = a.toInt * b.toInt ∧
    (mulHigh a.toInt b.toNat).toInt * 2 ^ 32 + (mulLow a.toInt b.toInt).toNat = a.toInt * b.toNat ∧
    mulHigh a.toInt b.toInt = mulHigh a.toNat b.toNat - (if a.getLsbD 31 then b else 0#32) - (if b.getLsbD 31 then a else 0#32) ∧
    mulHigh a.toInt b.toNat = mulHigh a.toNat b.toNat - (if a.getLsbD 31 then b else 0#32)

/-! ### Control and status registers -/

/-- R230 to R242 (D32): on an implemented address each CSR instruction completes: `rd` takes the old value; the new value is stored
through the mask with the aliases kept in step, or nothing is stored when `rs1` or `uimm` is 0 in the setting and clearing forms. -/
def Obligations.CsrInstructionsComplete : Prop :=
  ∀ (s : State) (rd rs1 : XReg) (uimm : BitVec 5) (addr : CsrAddr) (c : Csr), csrOfAddr addr = some c →
    CompletesCsr c (some (s.readX rs1)) rd s (exec (.csrrw rd addr rs1) s) ∧
    CompletesCsr c (if rs1 = 0#5 then none else some (s.csrRead c ||| s.readX rs1)) rd s (exec (.csrrs rd addr rs1) s) ∧
    CompletesCsr c (if rs1 = 0#5 then none else some (s.csrRead c &&& ~~~ s.readX rs1)) rd s (exec (.csrrc rd addr rs1) s) ∧
    CompletesCsr c (some (BitVec.ofNat 32 uimm.toNat)) rd s (exec (.csrrwi rd addr uimm) s) ∧
    CompletesCsr c (if uimm = 0#5 then none else some (s.csrRead c ||| BitVec.ofNat 32 uimm.toNat)) rd s
      (exec (.csrrsi rd addr uimm) s) ∧
    CompletesCsr c (if uimm = 0#5 then none else some (s.csrRead c &&& ~~~ BitVec.ofNat 32 uimm.toNat)) rd s
      (exec (.csrrci rd addr uimm) s)

/-- R231, R232, R352 (D33): exactly four addresses are implemented, and a CSR instruction on any other, the counters' 0xC00 to 0xC02
among them (R126), traps with none of its
writes, whatever `HALT_ON_RESERVED` is. -/
def Obligations.UnimplementedCsrTraps : Prop :=
  (csrOfAddr 0x001#12 = some .fflags ∧ csrOfAddr 0x002#12 = some .frm ∧ csrOfAddr 0x003#12 = some .fcsr ∧
    csrOfAddr 0x301#12 = some .misa) ∧
  (∀ addr : CsrAddr, addr.toNat ∉ [0x001, 0x002, 0x003, 0x301] → csrOfAddr addr = none) ∧
  ∀ (s : State) (rd rs1 : XReg) (uimm : BitVec 5) (addr : CsrAddr), addr.toNat ∉ [0x001, 0x002, 0x003, 0x301] →
    Traps .illegalCsr s (exec (.csrrw rd addr rs1) s) ∧ Traps .illegalCsr s (exec (.csrrs rd addr rs1) s) ∧
    Traps .illegalCsr s (exec (.csrrc rd addr rs1) s) ∧ Traps .illegalCsr s (exec (.csrrwi rd addr uimm) s) ∧
    Traps .illegalCsr s (exec (.csrrsi rd addr uimm) s) ∧ Traps .illegalCsr s (exec (.csrrci rd addr uimm) s)

/-- R246 (derived by the spec), L1 to L5: from a state whose three cells are aliased, read-back through all three is consistent
with the write masks, the cells stay aliased, and MISA never changes. -/
def Obligations.CsrReadBackIsConsistent : Prop :=
  ∀ (s : State) (w : Word), FpCsrInv s →
    ((s.csrWrite .fcsr w).csrRead .fcsr = w &&& 0xFF#32 ∧ (s.csrWrite .fcsr w).csrRead .fflags = w &&& 0x1F#32 ∧
      (s.csrWrite .fcsr w).csrRead .frm = (w >>> 5) &&& 7#32) ∧
    ((s.csrWrite .fflags w).csrRead .fflags = w &&& 0x1F#32 ∧ (s.csrWrite .fflags w).csrRead .frm = s.csrRead .frm ∧
      (s.csrWrite .fflags w).csrRead .fcsr = (s.csrRead .fcsr &&& 0xE0#32) ||| (w &&& 0x1F#32)) ∧
    ((s.csrWrite .frm w).csrRead .frm = w &&& 7#32 ∧ (s.csrWrite .frm w).csrRead .fflags = s.csrRead .fflags ∧
      (s.csrWrite .frm w).csrRead .fcsr = ((w &&& 7#32) <<< 5) ||| (s.csrRead .fcsr &&& 0x1F#32)) ∧
    (∀ c, (s.csrWrite c w).csrRead .misa = s.csrRead .misa ∧ FpCsrInv (s.csrWrite c w))

/-! ### Floating-point instructions -/

/-- R275: accrual ORs the five bits into FFLAGS and FCSR, clears nothing, leaves FRM alone, and changes nothing for the empty
set. -/
def Obligations.AccrualOrsTheFlags : Prop :=
  ∀ (s : State) (F : FpFlags),
    Accrued F s (s.accrue F) ∧ F.bits.toNat =
      (if F.nv then 16 else 0) + (if F.dz then 8 else 0) + (if F.ovf then 4 else 0) + (if F.unf then 2 else 0) +
        (if F.nx then 1 else 0) ∧
    s.fflags &&& (s.accrue F).fflags = s.fflags ∧ s.fcsr &&& (s.accrue F).fcsr = s.fcsr ∧
    (F.nv = false → F.dz = false → F.ovf = false → F.unf = false → F.nx = false → s.accrue F = s) ∧
    SameX s (s.accrue F) ∧ SameF s (s.accrue F) ∧ SameRam s (s.accrue F) ∧ SameRun s (s.accrue F)

/-- R262 (D23): a static mode selects itself; the dynamic one is the low three bits of FRM, of which 5, 6 and 7 name none. -/
def Obligations.EffectiveRoundingMode : Prop :=
  ∀ (s : State) (m : RoundingMode),
    s.effRm (.static m) = some m ∧
    (s.effRm .dyn = some m ↔ s.frm.toNat % 8 = m.bits.toNat) ∧
    (s.effRm .dyn = none ↔ 5 ≤ s.frm.toNat % 8)

/-- R262, R327, R336 (D23): with no effective mode, each of the thirteen instructions that take an `rm` field raises
`IllegalInstruction` before anything else happens: it traps, or halts under `HALT_ON_RESERVED`. -/
def Obligations.InvalidRoundingModeIsIllegal : Prop :=
  ∀ (s : State) (d a b c : FReg) (x : XReg) (rm : RmField), s.effRm rm = none →
    ∀ i ∈ [Instr.fmaddS d a b c rm, .fmsubS d a b c rm, .fnmsubS d a b c rm, .fnmaddS d a b c rm, .faddS d a b rm, .fsubS d a b rm,
        .fmulS d a b rm, .fdivS d a b rm, .fsqrtS d a rm, .fcvtWS x a rm, .fcvtWuS x a rm, .fcvtSW d x rm, .fcvtSWu d x rm],
      (s.cfg.haltOnReserved = false → Traps .illegalInstruction s (exec i s)) ∧
      (s.cfg.haltOnReserved = true → Halts .reservedInstruction s (exec i s))

/-- R303 to R306, R329 (D31): with an effective mode `m`, each of the four completes with its fused function, the sign controls as
the rules fix them. R277, R267: on operands that are no NaN that function rounds the exact sum of the exact product and the addend
once, through `round32`; an exact zero has the sign of R267; infinities pass through. Which mnemonic negates what, and the fused
function itself, are marked as general knowledge by the spec; exact values as integers are log 15. -/
def Obligations.FusedMultiplyAddsComplete : Prop :=
  ∀ (s : State) (d ra rb rc : FReg) (rm : RmField) (m : RoundingMode) (a b c : Word), s.effRm rm = some m →
    a = (s.readF ra).setWidth 32 → b = (s.readF rb).setWidth 32 → c = (s.readF rc).setWidth 32 →
    CompletesF d (Fp.fma32 a b c m false false).1 (Fp.fma32 a b c m false false).2 s (exec (.fmaddS d ra rb rc rm) s) ∧
    CompletesF d (Fp.fma32 a b c m false true).1 (Fp.fma32 a b c m false true).2 s (exec (.fmsubS d ra rb rc rm) s) ∧
    CompletesF d (Fp.fma32 a b c m true false).1 (Fp.fma32 a b c m true false).2 s (exec (.fnmsubS d ra rb rc rm) s) ∧
    CompletesF d (Fp.fma32 a b c m true true).1 (Fp.fma32 a b c m true true).2 s (exec (.fnmaddS d ra rb rc rm) s) ∧
    ∀ (negp negc ps cs : Bool) (v : Int), ps = ((Fp.sign a ^^ Fp.sign b) ^^ negp) → cs = (Fp.sign c ^^ negc) →
      v = (if negp then -1 else 1) * (Fp.num a * Fp.num b) + (if negc then -1 else 1) * (Fp.num c * 2 ^ 149) →
      (IsFinite a → IsFinite b → IsFinite c →
        (v ≠ 0 → Fp.fma32 a b c m negp negc = Fp.round32 (decide (v < 0)) ⟨v.natAbs, 2 ^ 298⟩ m) ∧
        (v = 0 → Fp.num a * Fp.num b = 0 → ps = cs → Fp.fma32 a b c m negp negc = (Fp.zero ps, .empty)) ∧
        (v = 0 → ¬ (Fp.num a * Fp.num b = 0 ∧ ps = cs) → Fp.fma32 a b c m negp negc = (Fp.zero (decide (m = .rdn)), .empty))) ∧
      (Fp.isInf a = true ∨ Fp.isInf b = true → Fp.isNaN a = false → Fp.isNaN b = false → Fp.isZero a = false → Fp.isZero b = false →
        IsFinite c ∨ (Fp.isInf c = true ∧ cs = ps) → Fp.fma32 a b c m negp negc = (Fp.inf ps, .empty)) ∧
      (IsFinite a → IsFinite b → Fp.isInf c = true → Fp.fma32 a b c m negp negc = (Fp.inf cs, .empty))

/-- R307 to R311, R330 (D31): with an effective mode `m`, each arithmetic instruction completes with its function of `rs1` and
`rs2` in that order. R272 to R274, R276, R267, R284: on operands that are no NaN each function, of the operands and the mode alone,
rounds the exact sum, difference, product, quotient or root once, through `round32`; an exact zero has the sign of R267; infinities pass through where the operation is
valid. The algorithms are marked as general knowledge by the spec; exact values as integers, and the fraction for the root, are
log 15. -/
def Obligations.FloatArithmeticCompletes : Prop :=
  ∀ (s : State) (d ra rb : FReg) (rm : RmField) (m : RoundingMode) (a b : Word), s.effRm rm = some m →
    a = (s.readF ra).setWidth 32 → b = (s.readF rb).setWidth 32 →
    CompletesF d (Fp.fadd32 a b m).1 (Fp.fadd32 a b m).2 s (exec (.faddS d ra rb rm) s) ∧
    CompletesF d (Fp.fsub32 a b m).1 (Fp.fsub32 a b m).2 s (exec (.fsubS d ra rb rm) s) ∧
    CompletesF d (Fp.fmul32 a b m).1 (Fp.fmul32 a b m).2 s (exec (.fmulS d ra rb rm) s) ∧
    CompletesF d (Fp.fdiv32 a b m).1 (Fp.fdiv32 a b m).2 s (exec (.fdivS d ra rb rm) s) ∧
    CompletesF d (Fp.fsqrt32 a m).1 (Fp.fsqrt32 a m).2 s (exec (.fsqrtS d ra rm) s) ∧
    ∀ sp : Bool, sp = (Fp.sign a ^^ Fp.sign b) →
      (IsFinite a → IsFinite b →
        (Fp.num a + Fp.num b ≠ 0 → Fp.fadd32 a b m =
          Fp.round32 (decide (Fp.num a + Fp.num b < 0)) ⟨(Fp.num a + Fp.num b).natAbs, 2 ^ 149⟩ m) ∧
        (Fp.num a + Fp.num b = 0 → Fp.fadd32 a b m = (Fp.zero (if sp then decide (m = .rdn) else Fp.sign a), .empty)) ∧
        (Fp.num a - Fp.num b ≠ 0 → Fp.fsub32 a b m =
          Fp.round32 (decide (Fp.num a - Fp.num b < 0)) ⟨(Fp.num a - Fp.num b).natAbs, 2 ^ 149⟩ m) ∧
        (Fp.num a - Fp.num b = 0 → Fp.fsub32 a b m = (Fp.zero (if sp then Fp.sign a else decide (m = .rdn)), .empty)) ∧
        (Fp.mag a ≠ 0 → Fp.mag b ≠ 0 → Fp.fmul32 a b m = Fp.round32 sp ⟨Fp.mag a * Fp.mag b, 2 ^ 298⟩ m ∧
          Fp.fdiv32 a b m = Fp.round32 sp ⟨Fp.mag a, Fp.mag b⟩ m) ∧
        (Fp.mag a = 0 ∨ Fp.mag b = 0 → Fp.fmul32 a b m = (Fp.zero sp, .empty)) ∧
        (Fp.mag a = 0 → Fp.mag b ≠ 0 → Fp.fdiv32 a b m = (Fp.zero sp, .empty))) ∧
      (Fp.isInf a = true → Fp.isNaN b = false →
        (Fp.isInf b = true → sp = false → Fp.fadd32 a b m = (a, .empty)) ∧ (Fp.isInf b = true → sp = true → Fp.fsub32 a b m = (a, .empty)) ∧
        (Fp.isInf b = false → Fp.fadd32 a b m = (a, .empty) ∧ Fp.fsub32 a b m = (a, .empty) ∧ Fp.fdiv32 a b m = (Fp.inf sp, .empty)) ∧
        (Fp.isZero b = false → Fp.fmul32 a b m = (Fp.inf sp, .empty))) ∧
      (IsFinite a → Fp.isInf b = true →
        Fp.fadd32 a b m = (b, .empty) ∧ Fp.fsub32 a b m = (Fp.inf (!Fp.sign b), .empty) ∧ Fp.fdiv32 a b m = (Fp.zero sp, .empty) ∧
        (Fp.isZero a = false → Fp.fmul32 a b m = (Fp.inf sp, .empty))) ∧
      (Fp.isNaN a = false → Fp.sign a = false → Fp.isZero a = false →
        (Fp.isInf a = true → Fp.fsqrt32 a m = (a, .empty)) ∧
        (Fp.isInf a = false → Fp.fsqrt32 a m = Fp.round32 false (Fp.sqrtFrac a) m))

/-- R312 to R314, R319, R323, R326, R331 (D31, D35): sign injection by bits, the two moves and the classification; no flag. -/
def Obligations.SignsMovesAndClassComplete : Prop :=
  ∀ (s : State) (d ra rb : FReg) (x : XReg) (a b : Word) (clear : FpFlags), clear = FpFlags.empty →
    a = (s.readF ra).setWidth 32 → b = (s.readF rb).setWidth 32 →
    CompletesF d (b.extractLsb' 31 1 ++ a.extractLsb' 0 31) clear s (exec (.fsgnjS d ra rb) s) ∧
    CompletesF d (~~~ (b.extractLsb' 31 1) ++ a.extractLsb' 0 31) clear s (exec (.fsgnjnS d ra rb) s) ∧
    CompletesF d ((a.extractLsb' 31 1 ^^^ b.extractLsb' 31 1) ++ a.extractLsb' 0 31) clear s (exec (.fsgnjxS d ra rb) s) ∧
    CompletesXF x a clear s (exec (.fmvXW x ra) s) ∧
    CompletesF d (s.readX x) clear s (exec (.fmvWX d x) s) ∧
    CompletesXF x (Fp.fclass32 a) clear s (exec (.fclassS x ra) s)

/-- R315, R316, R320 to R322, R332, R333 (D29, D31): minimum, maximum and the comparisons complete; FRM is not read. -/
def Obligations.MinMaxAndComparesComplete : Prop :=
  ∀ (s : State) (d ra rb : FReg) (x : XReg) (a b : Word), a = (s.readF ra).setWidth 32 → b = (s.readF rb).setWidth 32 →
    CompletesF d (Fp.fmin32 a b).1 (Fp.fmin32 a b).2 s (exec (.fminS d ra rb) s) ∧
    CompletesF d (Fp.fmax32 a b).1 (Fp.fmax32 a b).2 s (exec (.fmaxS d ra rb) s) ∧
    CompletesXF x (Fp.feq32 a b).1 (Fp.feq32 a b).2 s (exec (.feqS x ra rb) s) ∧
    CompletesXF x (Fp.flt32 a b).1 (Fp.flt32 a b).2 s (exec (.fltS x ra rb) s) ∧
    CompletesXF x (Fp.fle32 a b).1 (Fp.fle32 a b).2 s (exec (.fleS x ra rb) s)

/-- R317, R318, R324, R325, R327 (D31): with an effective mode, the conversions complete; the flags accrue also for `rd = x0`. R281: the
conversions from integers round the signed or the unsigned integer once, through `round32`, and zero is plus zero with no flag. -/
def Obligations.ConversionsComplete : Prop :=
  ∀ (s : State) (d ra : FReg) (x : XReg) (rm : RmField) (m : RoundingMode) (a w : Word), s.effRm rm = some m →
    a = (s.readF ra).setWidth 32 → w = s.readX x →
    CompletesXF x (Fp.fcvtW32 a m).1 (Fp.fcvtW32 a m).2 s (exec (.fcvtWS x ra rm) s) ∧
    CompletesXF x (Fp.fcvtWu32 a m).1 (Fp.fcvtWu32 a m).2 s (exec (.fcvtWuS x ra rm) s) ∧
    CompletesF d (Fp.fcvtSW w m).1 (Fp.fcvtSW w m).2 s (exec (.fcvtSW d x rm) s) ∧
    CompletesF d (Fp.fcvtSWu w m).1 (Fp.fcvtSWu w m).2 s (exec (.fcvtSWu d x rm) s) ∧
    (w = 0#32 → Fp.fcvtSW w m = (0#32, .empty) ∧ Fp.fcvtSWu w m = (0#32, .empty)) ∧
    (w ≠ 0#32 → Fp.fcvtSW w m = Fp.round32 (decide (w.toInt < 0)) ⟨w.toInt.natAbs, 1⟩ m ∧
      Fp.fcvtSWu w m = Fp.round32 false ⟨w.toNat, 1⟩ m)

/-! ### Floating-point arithmetic -/

/-- R263, R264: `round_int` is the floor or the one above it; exact on integers; nearest with the even one on a tie, toward zero,
down, up, nearest with the larger on a tie. The definitions are marked as general knowledge by the spec. -/
def Obligations.RoundIntRoundsAsItsMode : Prop :=
  ∀ (num den : Nat) (s : Bool), 0 < den →
    (∀ rm, (den ∣ num → Fp.roundInt ⟨num, den⟩ rm s * den = num) ∧
      num < (Fp.roundInt ⟨num, den⟩ rm s + 1) * den ∧ Fp.roundInt ⟨num, den⟩ rm s * den < num + den) ∧
    (2 * ((Fp.roundInt ⟨num, den⟩ .rne s * den : Int) - num).natAbs ≤ den ∧
      (2 * ((Fp.roundInt ⟨num, den⟩ .rne s * den : Int) - num).natAbs = den → Fp.roundInt ⟨num, den⟩ .rne s % 2 = 0)) ∧
    Fp.roundInt ⟨num, den⟩ .rtz s * den ≤ num ∧
    (if s then num ≤ Fp.roundInt ⟨num, den⟩ .rdn s * den else Fp.roundInt ⟨num, den⟩ .rdn s * den ≤ num) ∧
    (if s then Fp.roundInt ⟨num, den⟩ .rup s * den ≤ num else num ≤ Fp.roundInt ⟨num, den⟩ .rup s * den) ∧
    (2 * ((Fp.roundInt ⟨num, den⟩ .rmm s * den : Int) - num).natAbs ≤ den ∧
      (2 * ((Fp.roundInt ⟨num, den⟩ .rmm s * den : Int) - num).natAbs = den → num < Fp.roundInt ⟨num, den⟩ .rmm s * den))

/-- R264 to R266, R271 (D28): what `round32` delivers for an exact magnitude `num / den > 0`: never a NaN, the sign kept, no NV and no
DZ. NX exactly when the result differs from the exact value. OF exactly when the magnitude rounded to 24 bits exceeds MAXF, the
threshold of each direction written out; then the result is MAXF where the mode rounds down and an infinity elsewhere, and there is
no other infinity. UF exactly when NX is raised and the magnitude rounded to 24 bits with an unbounded exponent is below 2^-126,
again by the threshold of each direction. The definitions are marked as general knowledge by the spec. -/
def Obligations.Round32FlagsAreRight : Prop :=
  ∀ (s : Bool) (num den : Nat) (rm : RoundingMode) (r : Word) (F : FpFlags), 0 < num → 0 < den →
    Fp.round32 s ⟨num, den⟩ rm = (r, F) →
    Fp.isNaN r = false ∧ Fp.sign r = s ∧ F.nv = false ∧ F.dz = false ∧
    (F.nx = true ↔ Fp.isInf r = true ∨ Fp.mag r * den ≠ num * 2 ^ 149) ∧
    (RoundsNear rm → (F.ovf = true ↔ (2 ^ 25 - 1) * 2 ^ 103 * den ≤ num) ∧
      (F.unf = true ↔ F.nx = true ∧ num * 2 ^ 151 < (2 ^ 25 - 1) * den)) ∧
    (RoundsDown rm s → (F.ovf = true ↔ 2 ^ 128 * den ≤ num) ∧ (F.unf = true ↔ F.nx = true ∧ num * 2 ^ 126 < den)) ∧
    (RoundsUp rm s → (F.ovf = true ↔ (2 ^ 24 - 1) * 2 ^ 104 * den < num) ∧
      (F.unf = true ↔ F.nx = true ∧ num * 2 ^ 150 ≤ (2 ^ 24 - 1) * den)) ∧
    (F.ovf = true → F.nx = true ∧ F.unf = false ∧ (RoundsDown rm s → r = Fp.maxf s) ∧ (¬ RoundsDown rm s → r = Fp.inf s)) ∧
    (Fp.isInf r = true → F.ovf = true)

/-- R263, R264, R265: `round32` delivers the right neighbour of the exact magnitude `num / den` among all finite patterns: in the
modes that round the magnitude down, the largest not above it; in those that round it up, the smallest not below it, or an infinity
when there is none; in the two nearest modes an infinity exactly from MAXF plus half a unit on, and below that one at the smallest
distance, of two at that distance the one whose last bit is 0 (RNE) or the one of larger magnitude (RMM). The definitions are marked
as general knowledge by the spec. -/
def Obligations.Round32PicksTheRightNeighbour : Prop :=
  ∀ (s : Bool) (num den : Nat) (rm : RoundingMode) (r p : Word), 0 < num → 0 < den → r = (Fp.round32 s ⟨num, den⟩ rm).1 → IsFinite p →
    Fp.sign r = s ∧ Fp.isNaN r = false ∧
    (RoundsDown rm s →
      Fp.isInf r = false ∧ Fp.mag r * den ≤ num * 2 ^ 149 ∧ (Fp.mag p * den ≤ num * 2 ^ 149 → Fp.mag p ≤ Fp.mag r)) ∧
    (RoundsUp rm s →
      (Fp.isInf r = false → num * 2 ^ 149 ≤ Fp.mag r * den) ∧
      (Fp.isInf r = true ↔ (2 ^ 24 - 1) * 2 ^ 104 * den < num) ∧
      (num * 2 ^ 149 ≤ Fp.mag p * den → Fp.isInf r = false ∧ Fp.mag r ≤ Fp.mag p)) ∧
    (RoundsNear rm →
      (Fp.isInf r = true ↔ (2 ^ 25 - 1) * 2 ^ 103 * den ≤ num) ∧
      (Fp.isInf r = false →
        ((Fp.mag r * den : Int) - num * 2 ^ 149).natAbs ≤ ((Fp.mag p * den : Int) - num * 2 ^ 149).natAbs ∧
        (Fp.mag p ≠ Fp.mag r →
          ((Fp.mag p * den : Int) - num * 2 ^ 149).natAbs = ((Fp.mag r * den : Int) - num * 2 ^ 149).natAbs →
          (rm = .rne → r.getLsbD 0 = false) ∧ (rm = .rmm → Fp.mag p < Fp.mag r))))

/-- R268 to R271, R289 (L6, L7) (D27, D29): every arithmetic result that is a NaN is the canonical one. Any NaN operand gives it, with
NV alone exactly for a signalling one. NV is raised exactly by a signalling operand and by the invalid operations (b) to (e) of R269,
each with the canonical NaN and no other flag; the fused form's invalid product counts also when the addend is a quiet NaN. DZ is
raised exactly by FDIV.S of a finite non-zero number by zero, which gives the infinity of the product of the signs and no other
flag. OF and UF come with NX. The lists of R269 and R270 are marked as general knowledge by the spec. -/
def Obligations.ArithmeticNanAndFlagRules : Prop :=
  ∀ (a b c : Word) (m : RoundingMode) (negp negc : Bool) (nan : Word) (nv : FpFlags), nan = 0x7FC00000#32 →
    nv = ⟨true, false, false, false, false⟩ →
    (∀ R ∈ [Fp.fadd32 a b m, Fp.fsub32 a b m, Fp.fmul32 a b m, Fp.fdiv32 a b m, Fp.fsqrt32 a m, Fp.fma32 a b c m negp negc],
      (Fp.isNaN R.1 = true → R.1 = nan) ∧ (R.2.ovf = true ∨ R.2.unf = true → R.2.nx = true) ∧ (R.2.nv = true → R = (nan, nv))) ∧
    (Fp.isNaN a = true ∨ Fp.isNaN b = true → ∀ R ∈ [Fp.fadd32 a b m, Fp.fsub32 a b m, Fp.fmul32 a b m, Fp.fdiv32 a b m],
      R = (nan, ⟨Fp.isSNaN a || Fp.isSNaN b, false, false, false, false⟩)) ∧
    (Fp.isNaN a = true → Fp.fsqrt32 a m = (nan, ⟨Fp.isSNaN a, false, false, false, false⟩)) ∧
    (Fp.isNaN a = true ∨ Fp.isNaN b = true ∨ Fp.isNaN c = true →
      ¬ (Fp.isInf a = true ∧ Fp.isZero b = true) → ¬ (Fp.isZero a = true ∧ Fp.isInf b = true) →
      Fp.fma32 a b c m negp negc = (nan, ⟨Fp.isSNaN a || Fp.isSNaN b || Fp.isSNaN c, false, false, false, false⟩)) ∧
    ((Fp.fadd32 a b m).2.nv = true ↔ Fp.isSNaN a = true ∨ Fp.isSNaN b = true ∨
      (Fp.isInf a = true ∧ Fp.isInf b = true ∧ Fp.sign a ≠ Fp.sign b)) ∧
    ((Fp.fsub32 a b m).2.nv = true ↔ Fp.isSNaN a = true ∨ Fp.isSNaN b = true ∨
      (Fp.isInf a = true ∧ Fp.isInf b = true ∧ Fp.sign a = Fp.sign b)) ∧
    ((Fp.fmul32 a b m).2.nv = true ↔ Fp.isSNaN a = true ∨ Fp.isSNaN b = true ∨
      (Fp.isInf a = true ∧ Fp.isZero b = true) ∨ (Fp.isZero a = true ∧ Fp.isInf b = true)) ∧
    ((Fp.fdiv32 a b m).2.nv = true ↔ Fp.isSNaN a = true ∨ Fp.isSNaN b = true ∨
      (Fp.isZero a = true ∧ Fp.isZero b = true) ∨ (Fp.isInf a = true ∧ Fp.isInf b = true)) ∧
    ((Fp.fsqrt32 a m).2.nv = true ↔ Fp.isSNaN a = true ∨ (Fp.sign a = true ∧ Fp.isNaN a = false ∧ Fp.isZero a = false)) ∧
    ((Fp.fma32 a b c m negp negc).2.nv = true ↔ Fp.isSNaN a = true ∨ Fp.isSNaN b = true ∨ Fp.isSNaN c = true ∨
      (Fp.isInf a = true ∧ Fp.isZero b = true) ∨ (Fp.isZero a = true ∧ Fp.isInf b = true) ∨
      ((Fp.isInf a = true ∨ Fp.isInf b = true) ∧ Fp.isNaN a = false ∧ Fp.isNaN b = false ∧ Fp.isInf c = true ∧
        (Fp.sign c ^^ negc) ≠ ((Fp.sign a ^^ Fp.sign b) ^^ negp))) ∧
    ((Fp.fdiv32 a b m).2.dz = true ↔ IsFinite a ∧ Fp.isZero a = false ∧ Fp.isZero b = true) ∧
    ((Fp.fdiv32 a b m).2.dz = true → Fp.fdiv32 a b m = (Fp.inf (Fp.sign a ^^ Fp.sign b), ⟨false, true, false, false, false⟩)) ∧
    (∀ R ∈ [Fp.fadd32 a b m, Fp.fsub32 a b m, Fp.fmul32 a b m, Fp.fsqrt32 a m, Fp.fma32 a b c m negp negc], R.2.dz = false) ∧
    (Fp.isZero a = true → Fp.fsqrt32 a m = (a, ⟨false, false, false, false, false⟩))

/-- R289 (derived by the spec), L1, for the adder and the multiplier; R278 and R279 for the minimum, the maximum and the equality, of
which it follows: all five are commutative, results and flags. -/
def Obligations.FloatOperationsCommute : Prop :=
  ∀ (a b : Word) (m : RoundingMode),
    Fp.fadd32 a b m = Fp.fadd32 b a m ∧ Fp.fmul32 a b m = Fp.fmul32 b a m ∧ Fp.fmin32 a b = Fp.fmin32 b a ∧
    Fp.fmax32 a b = Fp.fmax32 b a ∧ Fp.feq32 a b = Fp.feq32 b a

/-- R289 (derived by the spec), L2, L3, and R267: a finite number minus itself is the zero of the mode; one is neutral for the
multiplier and the divider, subnormals included (R283). -/
def Obligations.SubtractSelfAndMultiplyByOne : Prop :=
  ∀ (a : Word) (m : RoundingMode), Fp.isNaN a = false →
    (Fp.isInf a = false → Fp.fsub32 a a m = (if m = .rdn then 0x80000000#32 else 0#32, FpFlags.empty)) ∧
    Fp.fmul32 a 0x3F800000#32 m = (a, FpFlags.empty) ∧ Fp.fdiv32 a 0x3F800000#32 m = (a, FpFlags.empty)

/-- R289 (derived by the spec), L4, L5: the fused function with addend minus zero is the multiplier unless the product is an exact
zero, and with factor one it is the adder, for all operands. -/
def Obligations.FusedAgreesWithMultiplyAndAdd : Prop :=
  ∀ (a b c : Word) (m : RoundingMode),
    (Fp.isZero a = true ∨ Fp.isZero b = true → Fp.isNaN a = true ∨ Fp.isNaN b = true ∨ Fp.isInf a = true ∨ Fp.isInf b = true) →
    Fp.fma32 a b 0x80000000#32 m false false = Fp.fmul32 a b m ∧
    Fp.fma32 a 0x3F800000#32 c m false false = Fp.fadd32 a c m

/-- R276: the integer square root behind FSQRT.S. That a fraction with denominator 2^102 and a sticky bit stands for the exact root is
the model's choice (log 15): the fraction that is rounded lies strictly between the same two integer multiples of its half unit as
the exact root, and equals it when the root is exact. -/
def Obligations.SquareRootIsFloorWithSticky : Prop :=
  (∀ n : Nat, n < 2 ^ 340 → Fp.isqrt n * Fp.isqrt n ≤ n ∧ n < (Fp.isqrt n + 1) * (Fp.isqrt n + 1)) ∧
  (∀ (a : Word) (k : Nat), Fp.isNaN a = false → Fp.isInf a = false →
    (Fp.sqrtFrac a).den = 2 ^ 102 ∧
    ((2 * k) * (2 * k) ≤ 4 * (2 * Fp.mag a * 2 ^ 52) ↔ 2 * k ≤ (Fp.sqrtFrac a).num) ∧
    ((2 * k) * (2 * k) = 4 * (2 * Fp.mag a * 2 ^ 52) ↔ 2 * k = (Fp.sqrtFrac a).num))

/-- R278, R279, R282, R289 (L9, L10) (D29, D36): minimum and maximum are an operand or the canonical NaN, raise NV exactly for a
signalling NaN, and minus zero lies below plus zero. The comparisons are those of the extended values, which are ordered as the
patterns are, with the two zeros equal; a NaN makes all three 0 and raises NV, for the equality only a signalling one. The class is
the row of R282's table, and has exactly one bit. The numbering of the classes is the spec's decision. -/
def Obligations.OrderAndClassLawsHold : Prop :=
  ∀ a b : Word,
    ((Fp.fmin32 a b).1 = a ∨ (Fp.fmin32 a b).1 = b ∨ (Fp.fmin32 a b).1 = 0x7FC00000#32) ∧
    ((Fp.fmax32 a b).1 = a ∨ (Fp.fmax32 a b).1 = b ∨ (Fp.fmax32 a b).1 = 0x7FC00000#32) ∧
    (Fp.fmin32 a b).2 = ⟨Fp.isSNaN a || Fp.isSNaN b, false, false, false, false⟩ ∧ (Fp.fmax32 a b).2 = (Fp.fmin32 a b).2 ∧
    (Fp.isNaN a = false → Fp.isNaN b = true → (Fp.fmin32 a b).1 = a ∧ (Fp.fmax32 a b).1 = a) ∧
    (Fp.isNaN a = true → Fp.isNaN b = false → (Fp.fmin32 a b).1 = b ∧ (Fp.fmax32 a b).1 = b) ∧
    (Fp.isNaN a = true → Fp.isNaN b = true → (Fp.fmin32 a b).1 = 0x7FC00000#32 ∧ (Fp.fmax32 a b).1 = 0x7FC00000#32) ∧
    (Fp.isNaN a = false → Fp.isNaN b = false →
      Fp.ext (Fp.fmin32 a b).1 = min (Fp.ext a) (Fp.ext b) ∧ Fp.ext (Fp.fmax32 a b).1 = max (Fp.ext a) (Fp.ext b) ∧
      (Fp.fle32 (Fp.fmin32 a b).1 (Fp.fmax32 a b).1).1 = 1#32 ∧ (Fp.fle32 a b).1 + (Fp.flt32 b a).1 = 1#32) ∧
    (Fp.sign a = true → Fp.sign b = false → Fp.isNaN a = false → Fp.isNaN b = false → (Fp.fmin32 a b).1 = a ∧ (Fp.fmax32 a b).1 = b) ∧
    (Fp.isNaN a = true ∨ Fp.isNaN b = true →
      Fp.feq32 a b = (0#32, ⟨Fp.isSNaN a || Fp.isSNaN b, false, false, false, false⟩) ∧
      Fp.flt32 a b = (0#32, ⟨true, false, false, false, false⟩) ∧ Fp.fle32 a b = (0#32, ⟨true, false, false, false, false⟩)) ∧
    (Fp.isNaN a = false → Fp.isNaN b = false →
      Fp.feq32 a b = (if Fp.ext a = Fp.ext b then 1#32 else 0#32, .empty) ∧
      Fp.flt32 a b = (if Fp.ext a < Fp.ext b then 1#32 else 0#32, .empty) ∧
      Fp.fle32 a b = (if Fp.ext a ≤ Fp.ext b then 1#32 else 0#32, .empty) ∧
      (Fp.ext a = Fp.ext b ↔ a = b ∨ (Fp.isZero a = true ∧ Fp.isZero b = true)) ∧
      (Fp.sign a = false → Fp.sign b = false → (Fp.ext a < Fp.ext b ↔ a.toNat < b.toNat)) ∧
      (Fp.sign a = true → Fp.sign b = true → (Fp.ext a < Fp.ext b ↔ b.toNat < a.toNat)) ∧
      (Fp.sign a = true → Fp.sign b = false → Fp.ext a ≤ 0 ∧ 0 ≤ Fp.ext b)) ∧
    ((Fp.flt32 a b).1 = 1#32 → (Fp.fle32 a b).1 = 1#32 ∧ (Fp.feq32 a b).1 = 0#32) ∧
    ((Fp.feq32 a b).1 = 1#32 → (Fp.fle32 a b).1 = 1#32) ∧
    (Fp.fclass32 a = 0x001#32 ↔ a = 0xFF800000#32) ∧
    (Fp.fclass32 a = 0x002#32 ↔ 0x80800000 ≤ a.toNat ∧ a.toNat ≤ 0xFF7FFFFF) ∧
    (Fp.fclass32 a = 0x004#32 ↔ 0x80000001 ≤ a.toNat ∧ a.toNat ≤ 0x807FFFFF) ∧
    (Fp.fclass32 a = 0x008#32 ↔ a = 0x80000000#32) ∧
    (Fp.fclass32 a = 0x010#32 ↔ a = 0x00000000#32) ∧
    (Fp.fclass32 a = 0x020#32 ↔ 0x00000001 ≤ a.toNat ∧ a.toNat ≤ 0x007FFFFF) ∧
    (Fp.fclass32 a = 0x040#32 ↔ 0x00800000 ≤ a.toNat ∧ a.toNat ≤ 0x7F7FFFFF) ∧
    (Fp.fclass32 a = 0x080#32 ↔ a = 0x7F800000#32) ∧
    (Fp.fclass32 a = 0x100#32 ↔ (0x7F800001 ≤ a.toNat ∧ a.toNat ≤ 0x7FBFFFFF) ∨ (0xFF800001 ≤ a.toNat ∧ a.toNat ≤ 0xFFBFFFFF)) ∧
    (Fp.fclass32 a = 0x200#32 ↔ (0x7FC00000 ≤ a.toNat ∧ a.toNat ≤ 0x7FFFFFFF) ∨ 0xFFC00000 ≤ a.toNat) ∧
    (∃ k, k < 10 ∧ Fp.fclass32 a = BitVec.ofNat 32 (2 ^ k))

/-- R280, R289 (L8, derived by the spec) (D29): a conversion to integer of a NaN, an infinity or a value that rounds outside the range
saturates with NV alone: for FCVT.W.S from 2^31 on and below -2^31, for FCVT.WU.S from 2^32 on, from -1 down, and between -1 and 0
where the mode rounds to -1. Every other value is rounded to an integer in the mode, with NX alone exactly when it is not that
integer. Truncating and converting back gives the truncated value exactly, in every mode, with no flag. Extended values are in units
of 2^-149, the infinities beyond all finite ones (log 15). -/
def Obligations.ConversionsSaturateAndRoundTrip : Prop :=
  ∀ (a : Word) (m : RoundingMode) (nv : FpFlags), nv = ⟨true, false, false, false, false⟩ →
    (Fp.isNaN a = true → Fp.fcvtW32 a m = (0x7FFFFFFF#32, nv) ∧ Fp.fcvtWu32 a m = (0xFFFFFFFF#32, nv)) ∧
    (Fp.isNaN a = false →
      (2 ^ 31 * 2 ^ 149 ≤ Fp.ext a → Fp.fcvtW32 a m = (0x7FFFFFFF#32, nv)) ∧
      (Fp.ext a < -(2 ^ 31 * 2 ^ 149) → Fp.fcvtW32 a m = (0x80000000#32, nv)) ∧
      (-(2 ^ 31 * 2 ^ 149) ≤ Fp.ext a → Fp.ext a < 2 ^ 31 * 2 ^ 149 →
        RoundedInt m (Fp.num a) (Fp.fcvtW32 a m).1.toInt ∧
        (Fp.fcvtW32 a m).2 = nxIf (decide ((Fp.fcvtW32 a m).1.toInt * 2 ^ 149 ≠ Fp.num a))) ∧
      (2 ^ 32 * 2 ^ 149 ≤ Fp.ext a → Fp.fcvtWu32 a m = (0xFFFFFFFF#32, nv)) ∧
      (Fp.ext a ≤ -(2 ^ 149) → Fp.fcvtWu32 a m = (0#32, nv)) ∧
      (-(2 ^ 149) < Fp.ext a → Fp.ext a < 0 → Fp.fcvtWu32 a m =
        (0#32, if RoundedInt m (Fp.num a) (-1) then nv else nxIf true)) ∧
      (0 ≤ Fp.ext a → Fp.ext a < 2 ^ 32 * 2 ^ 149 →
        RoundedInt m (Fp.num a) (Fp.fcvtWu32 a m).1.toNat ∧
        (Fp.fcvtWu32 a m).2 = nxIf (decide (((Fp.fcvtWu32 a m).1.toNat : Int) * 2 ^ 149 ≠ Fp.num a)))) ∧
    (Fp.isNaN a = false → Fp.isInf a = false → -(2 ^ 31) ≤ (Fp.num a).tdiv (2 ^ 149) → (Fp.num a).tdiv (2 ^ 149) ≤ 2 ^ 31 - 1 →
      (Fp.fcvtW32 a .rtz).1.toInt = (Fp.num a).tdiv (2 ^ 149) ∧
      Fp.num (Fp.fcvtSW (Fp.fcvtW32 a .rtz).1 m).1 = (Fp.num a).tdiv (2 ^ 149) * 2 ^ 149 ∧
      (Fp.fcvtSW (Fp.fcvtW32 a .rtz).1 m).2 = FpFlags.empty)
end

