-- ==== Sys2Proof/Laws/Memory.lean ====
section
/-! SUPPORT. Memory as a list: reading after writing, the canonical form, and the bytes of one access. -/

namespace Sys2Proof.Machine

/-! ### One byte -/

theorem get_set_same (a : Nat) (b : Byte) (m : Memory) : Memory.get a (Memory.set a b m) = some b := by
  induction m with
  | nil => simp [Memory.set, Memory.get]
  | cons e rest ih =>
    obtain ⟨k, c⟩ := e
    unfold Memory.set
    split
    · simp [Memory.get]
    · split
      · simp [Memory.get]
      · rename_i _ hk; simp [Memory.get, hk, ih]

theorem get_set_other (a x : Nat) (b : Byte) (m : Memory) (h : x ≠ a) : Memory.get x (Memory.set a b m) = Memory.get x m := by
  induction m with
  | nil => simp [Memory.set, Memory.get, Ne.symm h]
  | cons e rest ih =>
    obtain ⟨k, c⟩ := e
    unfold Memory.set
    split
    · simp [Memory.get, Ne.symm h]
    · split
      · rename_i _ hk; subst hk; simp [Memory.get, Ne.symm h]
      · simp [Memory.get, ih]

theorem mem_set (a : Nat) (b : Byte) (m : Memory) (e : Host.Cell) (h : e ∈ Memory.set a b m) : e = (a, b) ∨ e ∈ m := by
  induction m with
  | nil => simpa [Memory.set] using h
  | cons d rest ih =>
    obtain ⟨k, c⟩ := d
    unfold Memory.set at h
    split at h
    · simpa using h
    · split at h
      · simp only [List.mem_cons] at h ⊢; tauto
      · simp only [List.mem_cons] at h ⊢
        rcases h with h | h
        · exact .inr (.inl h)
        · have := ih h; tauto

/-- A write keeps the canonical form. -/
theorem set_wf (a : Nat) (b : Byte) (m : Memory) (h : Memory.wf m) : Memory.wf (Memory.set a b m) := by
  induction m with
  | nil => simp [Memory.set, Memory.wf]
  | cons e rest ih =>
    obtain ⟨k, c⟩ := e
    simp only [Memory.wf, List.pairwise_cons] at h
    unfold Memory.set
    split
    · rename_i hlt
      simp only [Memory.wf, List.pairwise_cons, List.mem_cons]
      refine ⟨?_, h.1, h.2⟩
      rintro d (rfl | hd)
      · exact hlt
      · exact lt_trans hlt (h.1 d hd)
    · split
      · rename_i _ hk; subst hk
        simpa [Memory.wf, List.pairwise_cons] using h
      · rename_i hn hk
        simp only [Memory.wf, List.pairwise_cons]
        refine ⟨fun d hd => ?_, ih h.2⟩
        rcases mem_set a b rest d hd with rfl | hd
        · simp only; omega
        · exact h.1 d hd

/-! ### The bytes of one access -/

/-- Bytes of one access of at most four are at different addresses, the wrap included. -/
theorem byteAddr_injective (a : Word) (i j : Nat) (hi : i < 4) (hj : j < 4) (h : byteAddr a i = byteAddr a j) : i = j := by
  simp only [byteAddr, BitVec.toNat_add, BitVec.toNat_ofNat] at h
  omega

theorem byteAddr_zero (a : Word) : byteAddr a 0 = a.toNat := by simp [byteAddr]

theorem allInRam_iff (c : Config) (a : Word) (n : Nat) :
    allInRam c a n = true ↔ ∀ i, i < n → inRam c (byteAddr a i) = true := by
  induction n with
  | zero => simp [allInRam]
  | succ n ih =>
    simp only [allInRam, Bool.and_eq_true, ih]
    refine ⟨fun h i hi => ?_, fun h => ⟨fun i hi => h i (by omega), h n (by omega)⟩⟩
    rcases Nat.lt_succ_iff_lt_or_eq.mp hi with hi | rfl
    · exact h.1 i hi
    · exact h.2

theorem storeBytes_wf (a v : Word) (m : Memory) (n : Nat) (h : Memory.wf m) : Memory.wf (storeBytes a v m n) := by
  induction n with
  | zero => exact h
  | succ n ih => exact set_wf _ _ _ ih

theorem mem_storeBytes (a v : Word) (m : Memory) (n : Nat) (e : Host.Cell) (h : e ∈ storeBytes a v m n) :
    (∃ i, i < n ∧ e.1 = byteAddr a i) ∨ e ∈ m := by
  induction n with
  | zero => exact .inr h
  | succ n ih =>
    rcases mem_set _ _ _ _ h with rfl | h
    · exact .inl ⟨n, by omega, rfl⟩
    · rcases ih h with ⟨i, hi, he⟩ | h
      · exact .inl ⟨i, by omega, he⟩
      · exact .inr h

/-- A store of at most four bytes: each is where it belongs. -/
theorem get_storeBytes_same (a v : Word) (m : Memory) (n i : Nat) (hn : n ≤ 4) (hi : i < n) :
    Memory.get (byteAddr a i) (storeBytes a v m n) = some (v.extractLsb' (8 * i) 8) := by
  induction n with
  | zero => omega
  | succ n ih =>
    unfold storeBytes
    by_cases h : i = n
    · subst h; exact get_set_same _ _ _
    · rw [get_set_other _ _ _ _ (fun e => h (byteAddr_injective a i n (by omega) (by omega) e))]
      exact ih (by omega) (by omega)

theorem get_storeBytes_other (a v : Word) (m : Memory) (n x : Nat) (h : ∀ i, i < n → x ≠ byteAddr a i) :
    Memory.get x (storeBytes a v m n) = Memory.get x m := by
  induction n with
  | zero => rfl
  | succ n ih =>
    unfold storeBytes
    rw [get_set_other _ _ _ _ (h n (by omega))]
    exact ih (fun i hi => h i (by omega))

/-- Storing the low `n` bytes of `v` at `a` in RAM writes exactly them (20_memory.md R66). -/
theorem ramWritten_storeBytes (a v : Word) (n : Nat) (hn : n ≤ 4) (s t : State) (h : t.memory = storeBytes a v s.memory n) :
    RamWritten a v n s t := by
  constructor
  · intro i hi
    simp [State.ramByte, h, get_storeBytes_same a v s.memory n i hn hi]
  · intro b hb
    simp [State.ramByte, h, get_storeBytes_other a v s.memory n b hb]

theorem leNat_lt (s : State) (a : Word) (n : Nat) : s.leNat a n < 256 ^ n := by
  induction n with
  | zero => simp [State.leNat]
  | succ n ih =>
    have hb := (s.ramByte (byteAddr a n)).isLt
    simp only [State.leNat, pow_succ]
    nlinarith

/-- The bytes of a load as a number (R65): the pattern `loadBytes` gives is the little-endian number of the bytes. -/
theorem loadBytes_toNat (s : State) (a : Word) (n : Nat) (hn : n ≤ 4) : (s.loadBytes a n).toNat = s.leNat a n := by
  induction n with
  | zero => rfl
  | succ n ih =>
    have ih := ih (by omega)
    have hb := (s.ramByte (byteAddr a n)).isLt
    have hl := leNat_lt s a n
    have hp : (256 : Nat) ^ n = 2 ^ (8 * n) := by rw [pow_mul]; norm_num
    have hle : 2 ^ (8 * n) * 2 ^ 8 ≤ 2 ^ 32 := by
      rw [← pow_add]; exact Nat.pow_le_pow_right (by norm_num) (by omega)
    have hlt : (s.ramByte (byteAddr a n)).toNat * 2 ^ (8 * n) < 2 ^ 32 := by nlinarith
    have hb32 : (s.ramByte (byteAddr a n)).toNat % 2 ^ 32 = (s.ramByte (byteAddr a n)).toNat := Nat.mod_eq_of_lt (by omega)
    simp only [State.loadBytes, State.leNat, BitVec.toNat_or, BitVec.toNat_shiftLeft, BitVec.toNat_setWidth, ih, hb32,
      Nat.shiftLeft_eq, Nat.mod_eq_of_lt hlt]
    rw [hp] at hl ⊢
    rw [Nat.or_comm, Nat.mul_comm, ← Nat.two_pow_add_eq_or_of_lt hl, Nat.add_comm]

end Sys2Proof.Machine
end

