-- ==== Sys2Proof/Laws/State.lean ====
section
/-! SUPPORT. One lemma for each field of the state and each named update: what the field is after it. -/

namespace Sys2Proof.Machine

variable (s : State)

/-! ### `setX` -/

@[simp] theorem setX_cfg (r : XReg) (v : Word) : (s.setX r v).cfg = s.cfg := by unfold State.setX; split <;> rfl
@[simp] theorem setX_f (r : XReg) (v : Word) : (s.setX r v).f = s.f := by unfold State.setX; split <;> rfl
@[simp] theorem setX_pc (r : XReg) (v : Word) : (s.setX r v).pc = s.pc := by unfold State.setX; split <;> rfl
@[simp] theorem setX_fflags (r : XReg) (v : Word) : (s.setX r v).fflags = s.fflags := by unfold State.setX; split <;> rfl
@[simp] theorem setX_frm (r : XReg) (v : Word) : (s.setX r v).frm = s.frm := by unfold State.setX; split <;> rfl
@[simp] theorem setX_fcsr (r : XReg) (v : Word) : (s.setX r v).fcsr = s.fcsr := by unfold State.setX; split <;> rfl
@[simp] theorem setX_misa (r : XReg) (v : Word) : (s.setX r v).misa = s.misa := by unfold State.setX; split <;> rfl
@[simp] theorem setX_priv (r : XReg) (v : Word) : (s.setX r v).priv = s.priv := by unfold State.setX; split <;> rfl
@[simp] theorem setX_cycle (r : XReg) (v : Word) : (s.setX r v).cycle = s.cycle := by unfold State.setX; split <;> rfl
@[simp] theorem setX_halt (r : XReg) (v : Word) : (s.setX r v).halt = s.halt := by unfold State.setX; split <;> rfl
@[simp] theorem setX_faultFlag (r : XReg) (v : Word) : (s.setX r v).faultFlag = s.faultFlag := by unfold State.setX; split <;> rfl
@[simp] theorem setX_trapPc (r : XReg) (v : Word) : (s.setX r v).trapPc = s.trapPc := by unfold State.setX; split <;> rfl
@[simp] theorem setX_trapCause (r : XReg) (v : Word) : (s.setX r v).trapCause = s.trapCause := by unfold State.setX; split <;> rfl
@[simp] theorem setX_memory (r : XReg) (v : Word) : (s.setX r v).memory = s.memory := by unfold State.setX; split <;> rfl
@[simp] theorem setX_stopReq (r : XReg) (v : Word) : (s.setX r v).stopReq = s.stopReq := by unfold State.setX; split <;> rfl
@[simp] theorem setX_irqPending (r : XReg) (v : Word) : (s.setX r v).irqPending = s.irqPending := by unfold State.setX; split <;> rfl
@[simp] theorem setX_ext (r : XReg) (v : Word) : (s.setX r v).ext = s.ext := by unfold State.setX; split <;> rfl

/-! ### `setF` -/

@[simp] theorem setF_cfg (r : FReg) (v : BitVec 64) : (s.setF r v).cfg = s.cfg := rfl
@[simp] theorem setF_x (r : FReg) (v : BitVec 64) : (s.setF r v).x = s.x := rfl
@[simp] theorem setF_f (r : FReg) (v : BitVec 64) : (s.setF r v).f = s.f.set r.toNat v := rfl
@[simp] theorem setF_pc (r : FReg) (v : BitVec 64) : (s.setF r v).pc = s.pc := rfl
@[simp] theorem setF_fflags (r : FReg) (v : BitVec 64) : (s.setF r v).fflags = s.fflags := rfl
@[simp] theorem setF_frm (r : FReg) (v : BitVec 64) : (s.setF r v).frm = s.frm := rfl
@[simp] theorem setF_fcsr (r : FReg) (v : BitVec 64) : (s.setF r v).fcsr = s.fcsr := rfl
@[simp] theorem setF_misa (r : FReg) (v : BitVec 64) : (s.setF r v).misa = s.misa := rfl
@[simp] theorem setF_priv (r : FReg) (v : BitVec 64) : (s.setF r v).priv = s.priv := rfl
@[simp] theorem setF_cycle (r : FReg) (v : BitVec 64) : (s.setF r v).cycle = s.cycle := rfl
@[simp] theorem setF_halt (r : FReg) (v : BitVec 64) : (s.setF r v).halt = s.halt := rfl
@[simp] theorem setF_faultFlag (r : FReg) (v : BitVec 64) : (s.setF r v).faultFlag = s.faultFlag := rfl
@[simp] theorem setF_trapPc (r : FReg) (v : BitVec 64) : (s.setF r v).trapPc = s.trapPc := rfl
@[simp] theorem setF_trapCause (r : FReg) (v : BitVec 64) : (s.setF r v).trapCause = s.trapCause := rfl
@[simp] theorem setF_memory (r : FReg) (v : BitVec 64) : (s.setF r v).memory = s.memory := rfl
@[simp] theorem setF_stopReq (r : FReg) (v : BitVec 64) : (s.setF r v).stopReq = s.stopReq := rfl
@[simp] theorem setF_irqPending (r : FReg) (v : BitVec 64) : (s.setF r v).irqPending = s.irqPending := rfl
@[simp] theorem setF_ext (r : FReg) (v : BitVec 64) : (s.setF r v).ext = s.ext := rfl

/-! ### `setF32` -/

@[simp] theorem setF32_cfg (r : FReg) (v : Word) : (s.setF32 r v).cfg = s.cfg := rfl
@[simp] theorem setF32_x (r : FReg) (v : Word) : (s.setF32 r v).x = s.x := rfl
@[simp] theorem setF32_f (r : FReg) (v : Word) : (s.setF32 r v).f = s.f.set r.toNat (boxed v) := rfl
@[simp] theorem setF32_pc (r : FReg) (v : Word) : (s.setF32 r v).pc = s.pc := rfl
@[simp] theorem setF32_fflags (r : FReg) (v : Word) : (s.setF32 r v).fflags = s.fflags := rfl
@[simp] theorem setF32_frm (r : FReg) (v : Word) : (s.setF32 r v).frm = s.frm := rfl
@[simp] theorem setF32_fcsr (r : FReg) (v : Word) : (s.setF32 r v).fcsr = s.fcsr := rfl
@[simp] theorem setF32_misa (r : FReg) (v : Word) : (s.setF32 r v).misa = s.misa := rfl
@[simp] theorem setF32_priv (r : FReg) (v : Word) : (s.setF32 r v).priv = s.priv := rfl
@[simp] theorem setF32_cycle (r : FReg) (v : Word) : (s.setF32 r v).cycle = s.cycle := rfl
@[simp] theorem setF32_halt (r : FReg) (v : Word) : (s.setF32 r v).halt = s.halt := rfl
@[simp] theorem setF32_faultFlag (r : FReg) (v : Word) : (s.setF32 r v).faultFlag = s.faultFlag := rfl
@[simp] theorem setF32_trapPc (r : FReg) (v : Word) : (s.setF32 r v).trapPc = s.trapPc := rfl
@[simp] theorem setF32_trapCause (r : FReg) (v : Word) : (s.setF32 r v).trapCause = s.trapCause := rfl
@[simp] theorem setF32_memory (r : FReg) (v : Word) : (s.setF32 r v).memory = s.memory := rfl
@[simp] theorem setF32_stopReq (r : FReg) (v : Word) : (s.setF32 r v).stopReq = s.stopReq := rfl
@[simp] theorem setF32_irqPending (r : FReg) (v : Word) : (s.setF32 r v).irqPending = s.irqPending := rfl
@[simp] theorem setF32_ext (r : FReg) (v : Word) : (s.setF32 r v).ext = s.ext := rfl

/-! ### `setPc` -/

@[simp] theorem setPc_cfg (t : Word) : (s.setPc t).cfg = s.cfg := rfl
@[simp] theorem setPc_x (t : Word) : (s.setPc t).x = s.x := rfl
@[simp] theorem setPc_f (t : Word) : (s.setPc t).f = s.f := rfl
@[simp] theorem setPc_pc (t : Word) : (s.setPc t).pc = t := rfl
@[simp] theorem setPc_fflags (t : Word) : (s.setPc t).fflags = s.fflags := rfl
@[simp] theorem setPc_frm (t : Word) : (s.setPc t).frm = s.frm := rfl
@[simp] theorem setPc_fcsr (t : Word) : (s.setPc t).fcsr = s.fcsr := rfl
@[simp] theorem setPc_misa (t : Word) : (s.setPc t).misa = s.misa := rfl
@[simp] theorem setPc_priv (t : Word) : (s.setPc t).priv = s.priv := rfl
@[simp] theorem setPc_cycle (t : Word) : (s.setPc t).cycle = s.cycle := rfl
@[simp] theorem setPc_halt (t : Word) : (s.setPc t).halt = s.halt := rfl
@[simp] theorem setPc_faultFlag (t : Word) : (s.setPc t).faultFlag = s.faultFlag := rfl
@[simp] theorem setPc_trapPc (t : Word) : (s.setPc t).trapPc = s.trapPc := rfl
@[simp] theorem setPc_trapCause (t : Word) : (s.setPc t).trapCause = s.trapCause := rfl
@[simp] theorem setPc_memory (t : Word) : (s.setPc t).memory = s.memory := rfl
@[simp] theorem setPc_stopReq (t : Word) : (s.setPc t).stopReq = s.stopReq := rfl
@[simp] theorem setPc_irqPending (t : Word) : (s.setPc t).irqPending = s.irqPending := rfl
@[simp] theorem setPc_ext (t : Word) : (s.setPc t).ext = s.ext := rfl

/-! ### `advance` -/

@[simp] theorem advance_cfg : (s.advance).cfg = s.cfg := rfl
@[simp] theorem advance_x : (s.advance).x = s.x := rfl
@[simp] theorem advance_f : (s.advance).f = s.f := rfl
@[simp] theorem advance_pc : (s.advance).pc = s.pc + 4#32 := rfl
@[simp] theorem advance_fflags : (s.advance).fflags = s.fflags := rfl
@[simp] theorem advance_frm : (s.advance).frm = s.frm := rfl
@[simp] theorem advance_fcsr : (s.advance).fcsr = s.fcsr := rfl
@[simp] theorem advance_misa : (s.advance).misa = s.misa := rfl
@[simp] theorem advance_priv : (s.advance).priv = s.priv := rfl
@[simp] theorem advance_cycle : (s.advance).cycle = s.cycle := rfl
@[simp] theorem advance_halt : (s.advance).halt = s.halt := rfl
@[simp] theorem advance_faultFlag : (s.advance).faultFlag = s.faultFlag := rfl
@[simp] theorem advance_trapPc : (s.advance).trapPc = s.trapPc := rfl
@[simp] theorem advance_trapCause : (s.advance).trapCause = s.trapCause := rfl
@[simp] theorem advance_memory : (s.advance).memory = s.memory := rfl
@[simp] theorem advance_stopReq : (s.advance).stopReq = s.stopReq := rfl
@[simp] theorem advance_irqPending : (s.advance).irqPending = s.irqPending := rfl
@[simp] theorem advance_ext : (s.advance).ext = s.ext := rfl

/-! ### `accrue` -/

@[simp] theorem accrue_cfg (F : FpFlags) : (s.accrue F).cfg = s.cfg := rfl
@[simp] theorem accrue_x (F : FpFlags) : (s.accrue F).x = s.x := rfl
@[simp] theorem accrue_f (F : FpFlags) : (s.accrue F).f = s.f := rfl
@[simp] theorem accrue_pc (F : FpFlags) : (s.accrue F).pc = s.pc := rfl
@[simp] theorem accrue_fflags (F : FpFlags) : (s.accrue F).fflags = s.fflags ||| F.bits := rfl
@[simp] theorem accrue_frm (F : FpFlags) : (s.accrue F).frm = s.frm := rfl
@[simp] theorem accrue_fcsr (F : FpFlags) : (s.accrue F).fcsr = s.fcsr ||| F.bits := rfl
@[simp] theorem accrue_misa (F : FpFlags) : (s.accrue F).misa = s.misa := rfl
@[simp] theorem accrue_priv (F : FpFlags) : (s.accrue F).priv = s.priv := rfl
@[simp] theorem accrue_cycle (F : FpFlags) : (s.accrue F).cycle = s.cycle := rfl
@[simp] theorem accrue_halt (F : FpFlags) : (s.accrue F).halt = s.halt := rfl
@[simp] theorem accrue_faultFlag (F : FpFlags) : (s.accrue F).faultFlag = s.faultFlag := rfl
@[simp] theorem accrue_trapPc (F : FpFlags) : (s.accrue F).trapPc = s.trapPc := rfl
@[simp] theorem accrue_trapCause (F : FpFlags) : (s.accrue F).trapCause = s.trapCause := rfl
@[simp] theorem accrue_memory (F : FpFlags) : (s.accrue F).memory = s.memory := rfl
@[simp] theorem accrue_stopReq (F : FpFlags) : (s.accrue F).stopReq = s.stopReq := rfl
@[simp] theorem accrue_irqPending (F : FpFlags) : (s.accrue F).irqPending = s.irqPending := rfl
@[simp] theorem accrue_ext (F : FpFlags) : (s.accrue F).ext = s.ext := rfl

/-! ### `flagFault` -/

@[simp] theorem flagFault_cfg : (s.flagFault).cfg = s.cfg := rfl
@[simp] theorem flagFault_x : (s.flagFault).x = s.x := rfl
@[simp] theorem flagFault_f : (s.flagFault).f = s.f := rfl
@[simp] theorem flagFault_pc : (s.flagFault).pc = s.pc := rfl
@[simp] theorem flagFault_fflags : (s.flagFault).fflags = s.fflags := rfl
@[simp] theorem flagFault_frm : (s.flagFault).frm = s.frm := rfl
@[simp] theorem flagFault_fcsr : (s.flagFault).fcsr = s.fcsr := rfl
@[simp] theorem flagFault_misa : (s.flagFault).misa = s.misa := rfl
@[simp] theorem flagFault_priv : (s.flagFault).priv = s.priv := rfl
@[simp] theorem flagFault_cycle : (s.flagFault).cycle = s.cycle := rfl
@[simp] theorem flagFault_halt : (s.flagFault).halt = s.halt := rfl
@[simp] theorem flagFault_faultFlag : (s.flagFault).faultFlag = true := rfl
@[simp] theorem flagFault_trapPc : (s.flagFault).trapPc = s.trapPc := rfl
@[simp] theorem flagFault_trapCause : (s.flagFault).trapCause = s.trapCause := rfl
@[simp] theorem flagFault_memory : (s.flagFault).memory = s.memory := rfl
@[simp] theorem flagFault_stopReq : (s.flagFault).stopReq = s.stopReq := rfl
@[simp] theorem flagFault_irqPending : (s.flagFault).irqPending = s.irqPending := rfl
@[simp] theorem flagFault_ext : (s.flagFault).ext = s.ext := rfl

/-! ### `trapEntry` -/

@[simp] theorem trapEntry_cfg (k : TrapCause) : (s.trapEntry k).cfg = s.cfg := rfl
@[simp] theorem trapEntry_x (k : TrapCause) : (s.trapEntry k).x = s.x := rfl
@[simp] theorem trapEntry_f (k : TrapCause) : (s.trapEntry k).f = s.f := rfl
@[simp] theorem trapEntry_pc (k : TrapCause) : (s.trapEntry k).pc = s.cfg.mtvec := rfl
@[simp] theorem trapEntry_fflags (k : TrapCause) : (s.trapEntry k).fflags = s.fflags := rfl
@[simp] theorem trapEntry_frm (k : TrapCause) : (s.trapEntry k).frm = s.frm := rfl
@[simp] theorem trapEntry_fcsr (k : TrapCause) : (s.trapEntry k).fcsr = s.fcsr := rfl
@[simp] theorem trapEntry_misa (k : TrapCause) : (s.trapEntry k).misa = s.misa := rfl
@[simp] theorem trapEntry_priv (k : TrapCause) : (s.trapEntry k).priv = s.priv := rfl
@[simp] theorem trapEntry_cycle (k : TrapCause) : (s.trapEntry k).cycle = s.cycle := rfl
@[simp] theorem trapEntry_halt (k : TrapCause) : (s.trapEntry k).halt = s.halt := rfl
@[simp] theorem trapEntry_faultFlag (k : TrapCause) : (s.trapEntry k).faultFlag = s.faultFlag := rfl
@[simp] theorem trapEntry_trapPc (k : TrapCause) : (s.trapEntry k).trapPc = s.pc := rfl
@[simp] theorem trapEntry_trapCause (k : TrapCause) : (s.trapEntry k).trapCause = some k := rfl
@[simp] theorem trapEntry_memory (k : TrapCause) : (s.trapEntry k).memory = s.memory := rfl
@[simp] theorem trapEntry_stopReq (k : TrapCause) : (s.trapEntry k).stopReq = s.stopReq := rfl
@[simp] theorem trapEntry_irqPending (k : TrapCause) : (s.trapEntry k).irqPending = s.irqPending := rfl
@[simp] theorem trapEntry_ext (k : TrapCause) : (s.trapEntry k).ext = s.ext := rfl

/-! ### `haltWith` -/

@[simp] theorem haltWith_cfg (r : HaltReason) : (s.haltWith r).cfg = s.cfg := rfl
@[simp] theorem haltWith_x (r : HaltReason) : (s.haltWith r).x = s.x := rfl
@[simp] theorem haltWith_f (r : HaltReason) : (s.haltWith r).f = s.f := rfl
@[simp] theorem haltWith_pc (r : HaltReason) : (s.haltWith r).pc = s.pc := rfl
@[simp] theorem haltWith_fflags (r : HaltReason) : (s.haltWith r).fflags = s.fflags := rfl
@[simp] theorem haltWith_frm (r : HaltReason) : (s.haltWith r).frm = s.frm := rfl
@[simp] theorem haltWith_fcsr (r : HaltReason) : (s.haltWith r).fcsr = s.fcsr := rfl
@[simp] theorem haltWith_misa (r : HaltReason) : (s.haltWith r).misa = s.misa := rfl
@[simp] theorem haltWith_priv (r : HaltReason) : (s.haltWith r).priv = s.priv := rfl
@[simp] theorem haltWith_cycle (r : HaltReason) : (s.haltWith r).cycle = s.cycle := rfl
@[simp] theorem haltWith_halt (r : HaltReason) : (s.haltWith r).halt = some r := rfl
@[simp] theorem haltWith_faultFlag (r : HaltReason) : (s.haltWith r).faultFlag = s.faultFlag := rfl
@[simp] theorem haltWith_trapPc (r : HaltReason) : (s.haltWith r).trapPc = s.trapPc := rfl
@[simp] theorem haltWith_trapCause (r : HaltReason) : (s.haltWith r).trapCause = s.trapCause := rfl
@[simp] theorem haltWith_memory (r : HaltReason) : (s.haltWith r).memory = s.memory := rfl
@[simp] theorem haltWith_stopReq (r : HaltReason) : (s.haltWith r).stopReq = s.stopReq := rfl
@[simp] theorem haltWith_irqPending (r : HaltReason) : (s.haltWith r).irqPending = s.irqPending := rfl
@[simp] theorem haltWith_ext (r : HaltReason) : (s.haltWith r).ext = s.ext := rfl

/-! ### `endTick` -/

@[simp] theorem endTick_cfg : (s.endTick).cfg = s.cfg := rfl
@[simp] theorem endTick_x : (s.endTick).x = s.x := rfl
@[simp] theorem endTick_f : (s.endTick).f = s.f := rfl
@[simp] theorem endTick_pc : (s.endTick).pc = s.pc := rfl
@[simp] theorem endTick_fflags : (s.endTick).fflags = s.fflags := rfl
@[simp] theorem endTick_frm : (s.endTick).frm = s.frm := rfl
@[simp] theorem endTick_fcsr : (s.endTick).fcsr = s.fcsr := rfl
@[simp] theorem endTick_misa : (s.endTick).misa = s.misa := rfl
@[simp] theorem endTick_priv : (s.endTick).priv = s.priv := rfl
@[simp] theorem endTick_cycle : (s.endTick).cycle = s.cycle + 1 := rfl
@[simp] theorem endTick_halt : (s.endTick).halt = s.halt := rfl
@[simp] theorem endTick_faultFlag : (s.endTick).faultFlag = s.faultFlag := rfl
@[simp] theorem endTick_trapPc : (s.endTick).trapPc = s.trapPc := rfl
@[simp] theorem endTick_trapCause : (s.endTick).trapCause = s.trapCause := rfl
@[simp] theorem endTick_memory : (s.endTick).memory = s.memory := rfl
@[simp] theorem endTick_stopReq : (s.endTick).stopReq = s.stopReq := rfl
@[simp] theorem endTick_irqPending : (s.endTick).irqPending = s.irqPending := rfl
@[simp] theorem endTick_ext : (s.endTick).ext = s.ext := rfl

/-! ### `csrWrite` -/

@[simp] theorem csrWrite_cfg (c : Csr) (w : Word) : (s.csrWrite c w).cfg = s.cfg := by cases c <;> rfl
@[simp] theorem csrWrite_x (c : Csr) (w : Word) : (s.csrWrite c w).x = s.x := by cases c <;> rfl
@[simp] theorem csrWrite_f (c : Csr) (w : Word) : (s.csrWrite c w).f = s.f := by cases c <;> rfl
@[simp] theorem csrWrite_pc (c : Csr) (w : Word) : (s.csrWrite c w).pc = s.pc := by cases c <;> rfl
@[simp] theorem csrWrite_priv (c : Csr) (w : Word) : (s.csrWrite c w).priv = s.priv := by cases c <;> rfl
@[simp] theorem csrWrite_cycle (c : Csr) (w : Word) : (s.csrWrite c w).cycle = s.cycle := by cases c <;> rfl
@[simp] theorem csrWrite_halt (c : Csr) (w : Word) : (s.csrWrite c w).halt = s.halt := by cases c <;> rfl
@[simp] theorem csrWrite_faultFlag (c : Csr) (w : Word) : (s.csrWrite c w).faultFlag = s.faultFlag := by cases c <;> rfl
@[simp] theorem csrWrite_trapPc (c : Csr) (w : Word) : (s.csrWrite c w).trapPc = s.trapPc := by cases c <;> rfl
@[simp] theorem csrWrite_trapCause (c : Csr) (w : Word) : (s.csrWrite c w).trapCause = s.trapCause := by cases c <;> rfl
@[simp] theorem csrWrite_memory (c : Csr) (w : Word) : (s.csrWrite c w).memory = s.memory := by cases c <;> rfl
@[simp] theorem csrWrite_stopReq (c : Csr) (w : Word) : (s.csrWrite c w).stopReq = s.stopReq := by cases c <;> rfl
@[simp] theorem csrWrite_irqPending (c : Csr) (w : Word) : (s.csrWrite c w).irqPending = s.irqPending := by cases c <;> rfl
@[simp] theorem csrWrite_ext (c : Csr) (w : Word) : (s.csrWrite c w).ext = s.ext := by cases c <;> rfl

/-! ### Reads that look at one field -/

theorem readX_of_x (t : State) (h : t.x = s.x) (r : XReg) : t.readX r = s.readX r := by simp [State.readX, h]

theorem readF_of_f (t : State) (h : t.f = s.f) (r : FReg) : t.readF r = s.readF r := by simp [State.readF, h]

theorem ramByte_of_memory (t : State) (h : t.memory = s.memory) (a : Nat) : t.ramByte a = s.ramByte a := by
  simp [State.ramByte, h]

@[simp] theorem readX_zero : s.readX 0#5 = 0#32 := by simp [State.readX]

/-- Reading after `setX` (10_state.md R21): the write to register 0 is discarded. -/
theorem readX_setX (rd : XReg) (v : Word) (r : XReg) :
    (s.setX rd v).readX r = if r = rd ∧ rd ≠ 0#5 then v else s.readX r := by
  unfold State.setX
  by_cases h0 : rd = 0#5
  · simp [h0]
  · by_cases hr : r = rd
    · subst hr; simp [State.readX, h0]
    · have hne : rd.toNat ≠ r.toNat := fun e => hr (BitVec.eq_of_toNat_eq e.symm)
      by_cases hz : r = 0#5
      · simp [State.readX, h0, hz, eq_comm]
      · simp [State.readX, h0, hr, hz, hne]

/-- Reading after `setF`. -/
theorem readF_setF (rd : FReg) (v : BitVec 64) (r : FReg) :
    (s.setF rd v).readF r = if r = rd then v else s.readF r := by
  by_cases hr : r = rd
  · subst hr; simp [State.readF]
  · have hne : rd.toNat ≠ r.toNat := fun e => hr (BitVec.eq_of_toNat_eq e.symm)
    simp [State.readF, hr, hne]

/-- The cell of register 0 keeps its value under `setX`. -/
theorem setX_x_zero (rd : XReg) (v : Word) : (s.setX rd v).x[0] = s.x[0] := by
  unfold State.setX
  by_cases h0 : rd = 0#5
  · simp [h0]
  · have hne : rd.toNat ≠ 0 := fun e => h0 (BitVec.eq_of_toNat_eq (by simpa using e))
    simp [h0, hne]

end Sys2Proof.Machine
end

