-- ==== Sys2Proof/Laws/Ops.lean ====
section
/-! SUPPORT. One lemma for each shared operation, saying once everything it can do. -/

namespace Sys2Proof.Machine

/-! ### The callback and one access -/

/-- The state after the callback was sent `req`. -/
def State.asked (req : ExtRequest) (s : State) : State :=
  { s with ext := s.ext.map (·.after req) }

theorem extAsked_asked (req : ExtRequest) (s : State) : ExtAsked req s (s.asked req) := rfl

theorem askExt_eq (req : ExtRequest) (s : State) : s.askExt req = (s.reply req, s.asked req) := rfl

theorem allInRam_asked (req : ExtRequest) (s : State) (a : Word) (n : Nat) :
    allInRam (s.asked req).cfg a n = allInRam s.cfg a n := rfl

theorem loadBytes_asked (req : ExtRequest) (s : State) (a : Word) (n : Nat) :
    (s.asked req).loadBytes a n = s.loadBytes a n := by
  induction n with
  | zero => rfl
  | succ n ih => simp only [State.loadBytes, ih]; rfl

theorem accessType_bytes_le (type : AccessType) : type.bytes ≤ 4 := by cases type <;> decide

theorem loadBytes_eq (s : State) (a : Word) (n : Nat) (hn : n ≤ 4) : s.loadBytes a n = BitVec.ofNat 32 (s.leNat a n) := by
  apply BitVec.eq_of_toNat_eq
  have h := (s.loadBytes a n).isLt
  rw [loadBytes_toNat s a n hn] at h
  rw [loadBytes_toNat s a n hn, BitVec.toNat_ofNat, Nat.mod_eq_of_lt h]

theorem lowBytes_eq (v : Word) (n : Nat) (hn : n ≤ 4) : lowBytes v n = BitVec.ofNat 32 (v.toNat % 2 ^ (8 * n)) := by
  apply BitVec.eq_of_toNat_eq
  have hle : 2 ^ (8 * n) ≤ 2 ^ 32 := Nat.pow_le_pow_right (by norm_num) (by omega)
  have hlt := v.isLt
  have h1 : v.toNat % 2 ^ (8 * n) ≤ v.toNat := Nat.mod_le _ _
  have hp : 0 < 2 ^ (8 * n) := by positivity
  simp only [lowBytes, BitVec.toNat_and, BitVec.toNat_ofNat]
  rw [Nat.mod_eq_of_lt (show 2 ^ (8 * n) - 1 < 2 ^ 32 by omega), Nat.and_two_pow_sub_one_eq_mod,
    Nat.mod_eq_of_lt (show v.toNat % 2 ^ (8 * n) < 2 ^ 32 by omega)]

/-- `MemRead` of an access that RAM serves (20_memory.md R65). -/
theorem memRead_ram (type : AccessType) (a : Word) (s : State) (h : ServedByRam (readReq a type) s) :
    s.memRead type a = (some (BitVec.ofNat 32 (s.leNat a type.bytes)), s.asked (readReq a type)) := by
  have hin := (allInRam_iff s.cfg a type.bytes).mpr h.2
  simp only [State.memRead, askExt_eq, h.1, allInRam_asked, hin, loadBytes_asked, if_true, if_false, Bool.false_eq_true,
    loadBytes_eq s a _ (accessType_bytes_le type)]

/-- `MemRead` of an access that the callback takes (R65). -/
theorem memRead_ext (type : AccessType) (a : Word) (s : State) (h : ServedByExt (readReq a type) s) :
    s.memRead type a = (some (lowBytes (s.reply (readReq a type)).dataOut type.bytes), s.asked (readReq a type)) := by
  simp only [State.memRead, askExt_eq, h.1, h.2, if_true, if_false, Bool.false_eq_true]

/-- `MemRead` of an access that is not served (R63, R65). -/
theorem memRead_fault (type : AccessType) (a : Word) (s : State) (h : NotServed (readReq a type) s) :
    s.memRead type a = (none, (s.asked (readReq a type)).flagFault) := by
  rcases h with ⟨h1, h2⟩ | ⟨h1, i, hi, ho⟩
  · simp only [State.memRead, askExt_eq, h1, h2, if_true]
  · have hin : allInRam s.cfg a type.bytes = false := by
      rw [Bool.eq_false_iff]; intro h; rw [allInRam_iff] at h; exact Bool.noConfusion ((h i hi).symm.trans ho)
    simp only [State.memRead, askExt_eq, h1, allInRam_asked, hin, if_false, Bool.false_eq_true]

/-- `MemWrite` of an access that RAM serves (R66). -/
theorem memWrite_ram (type : AccessType) (a v : Word) (s : State) (h : ServedByRam (writeReq a v type) s) :
    s.memWrite type a v = (true, { s.asked (writeReq a v type) with memory := storeBytes a v s.memory type.bytes }) := by
  have hin := (allInRam_iff s.cfg a type.bytes).mpr h.2
  simp only [State.memWrite, askExt_eq, h.1, allInRam_asked, hin, if_true, if_false, Bool.false_eq_true]
  rfl

/-- `MemWrite` of an access that the callback takes (R66). -/
theorem memWrite_ext (type : AccessType) (a v : Word) (s : State) (h : ServedByExt (writeReq a v type) s) :
    s.memWrite type a v = (true, s.asked (writeReq a v type)) := by
  simp only [State.memWrite, askExt_eq, h.1, h.2, if_true, if_false, Bool.false_eq_true]

/-- `MemWrite` of an access that is not served: nothing is written (R63, R66). -/
theorem memWrite_fault (type : AccessType) (a v : Word) (s : State) (h : NotServed (writeReq a v type) s) :
    s.memWrite type a v = (false, (s.asked (writeReq a v type)).flagFault) := by
  rcases h with ⟨h1, h2⟩ | ⟨h1, i, hi, ho⟩
  · simp only [State.memWrite, askExt_eq, h1, h2, if_true]
  · have hin : allInRam s.cfg a type.bytes = false := by
      rw [Bool.eq_false_iff]; intro h; rw [allInRam_iff] at h; exact Bool.noConfusion ((h i hi).symm.trans ho)
    simp only [State.memWrite, askExt_eq, h1, allInRam_asked, hin, if_false, Bool.false_eq_true]

/-- Every access is served by the callback, by RAM, or by nobody. -/
theorem served_cases (q : ExtRequest) (s : State) : ServedByExt q s ∨ ServedByRam q s ∨ NotServed q s := by
  unfold ServedByExt ServedByRam NotServed
  cases h : (s.reply q).handled
  · by_cases hr : ∀ i, i < q.type.bytes → inRam s.cfg (byteAddr q.addr i) = true
    · exact .inr (.inl ⟨rfl, hr⟩)
    · obtain ⟨i, hi, ho⟩ := not_forall₂.mp hr
      exact .inr (.inr (.inr ⟨rfl, i, hi, by simpa using ho⟩))
  · cases hf : (s.reply q).fault
    · exact .inl ⟨rfl, rfl⟩
    · exact .inr (.inr (.inl ⟨rfl, rfl⟩))

/-! ### Loads, stores and traps -/

/-- A load ends in the register write, or in the trap with the flag consumed and nothing else written (41_integer.md R192). -/
theorem loadThen_cases (type : AccessType) (a : Word) (put : Word → State → State) (s : State) :
    (∃ v, loadThen type a put s = .next ((put v (s.asked (readReq a type))).advance)) ∨
      loadThen type a put s =
        .next (({ s.asked (readReq a type) with faultFlag := false } : State).trapEntry .accessFaultLoad) := by
  rcases served_cases (readReq a type) s with h | h | h
  · exact .inl ⟨lowBytes (s.reply (readReq a type)).dataOut type.bytes, by simp only [loadThen, memRead_ext type a s h]⟩
  · exact .inl ⟨BitVec.ofNat 32 (s.leNat a type.bytes), by simp only [loadThen, memRead_ram type a s h]⟩
  · exact .inr (by simp only [loadThen, memRead_fault type a s h]; rfl)

/-- A store ends with its bytes in RAM, or with the callback's consent, or in the trap with nothing written
(41_integer.md R193). -/
theorem storeThen_cases (type : AccessType) (a v : Word) (s : State) :
    (ServedByRam (writeReq a v type) s ∧ storeThen type a v s =
        .next ({ s.asked (writeReq a v type) with memory := storeBytes a v s.memory type.bytes } : State).advance) ∨
      storeThen type a v s = .next (s.asked (writeReq a v type)).advance ∨
      storeThen type a v s =
        .next (({ s.asked (writeReq a v type) with faultFlag := false } : State).trapEntry .accessFaultStore) := by
  rcases served_cases (writeReq a v type) s with h | h | h
  · exact .inr (.inl (by simp only [storeThen, memWrite_ext type a v s h]))
  · exact .inl ⟨h, by simp only [storeThen, memWrite_ram type a v s h]⟩
  · exact .inr (.inr (by simp only [storeThen, memWrite_fault type a v s h]; rfl))

/-- A raised kind enters the trap, with the fault flag clear or as it was, or halts the core (60_exceptions.md R360). -/
theorem raise_cases (k : TrapCause) (s : State) :
    s.raise k = s.trapEntry k ∨ s.raise k = ({ s with faultFlag := false } : State).trapEntry k ∨
      (k = .illegalInstruction ∧ s.cfg.haltOnReserved = true ∧ s.raise k = s.haltWith .reservedInstruction) ∨
      (k = .ecall ∧ s.cfg.haltOnEcall = true ∧ s.raise k = s.haltWith .ecall) := by
  cases k <;> simp only [State.raise]
  case illegalInstruction => by_cases h : s.cfg.haltOnReserved = true <;> simp [h]
  case ecall => by_cases h : s.cfg.haltOnEcall = true <;> simp [h]
  all_goals simp

/-- An instruction with an `rm` field runs in its mode, or raises `IllegalInstruction` (45_fp_instructions.md R327). -/
theorem withMode_cases (rm : RmField) (run : RoundingMode → State → State) (s : State) :
    (∃ m, s.effRm rm = some m ∧ withMode rm run s = .next (run m s)) ∨
      (s.effRm rm = none ∧ withMode rm run s = .next (s.raise .illegalInstruction)) := by
  cases h : s.effRm rm
  · exact .inr ⟨rfl, by simp only [withMode, h]⟩
  · exact .inl ⟨_, rfl, by simp only [withMode, h]⟩

/-! ### CSRs -/

/-- What `csr_write` leaves in the three aliased cells (43_csr.md R233, R234). -/
theorem csrStored_csrWrite (c : Csr) (w : Word) (s : State) : CsrStored c w s (s.csrWrite c w) := by
  cases c
  · refine ⟨rfl, rfl, ?_⟩
    simp only [State.csrWrite, State.setCsr, State.aliasSync, State.csrRead, Csr.mask]
    congr 1
    ext i; simp only [BitVec.getElem_and, BitVec.getElem_or, BitVec.getElem_not]; grind
  · refine ⟨rfl, rfl, ?_⟩
    simp only [State.csrWrite, State.setCsr, State.aliasSync, State.csrRead, Csr.mask]
    congr 2
    ext i; simp only [BitVec.getElem_and, BitVec.getElem_or, BitVec.getElem_not]; grind
  · have h : ∀ o : Word, ((o &&& ~~~0xFF#32) ||| (w &&& 0xFF#32)) &&& 0x1F#32 = w &&& 0x1F#32 := by
      intro o
      rw [BitVec.and_or_distrib_right, BitVec.and_assoc, BitVec.and_assoc]; simp
    have h' : ∀ o : Word, (((o &&& ~~~0xFF#32) ||| (w &&& 0xFF#32)) >>> 5) &&& 0x7#32 = (w >>> 5) &&& 0x7#32 := by
      intro o
      rw [BitVec.ushiftRight_or_distrib, BitVec.ushiftRight_and_distrib, BitVec.ushiftRight_and_distrib,
        BitVec.and_or_distrib_right, BitVec.and_assoc, BitVec.and_assoc]; simp
    exact ⟨h _, h' _, rfl⟩
  · exact ⟨rfl, rfl, rfl⟩

/-- MISA has the mask 0: no write changes it (10_state.md R33). -/
@[simp] theorem csrWrite_misa (c : Csr) (w : Word) (s : State) : (s.csrWrite c w).misa = s.misa := by
  cases c
  · rfl
  · rfl
  · rfl
  · show (s.misa &&& BitVec.allOnes 32) ||| (w &&& 0#32) = s.misa
    rw [BitVec.and_allOnes, BitVec.and_zero, BitVec.or_zero]

/-- A CSR instruction traps, or writes `rd` after the masked write it asks for (43_csr.md R230, R232). -/
theorem csrAccess_cases (rd : XReg) (addr : CsrAddr) (new : Word → Option Word) (s : State) :
    (csrOfAddr addr = none ∧ csrAccess rd addr new s = .next (s.trapEntry .illegalCsr)) ∨
      ∃ c, csrOfAddr addr = some c ∧
        ((new (s.csrRead c) = none ∧ csrAccess rd addr new s = .next ((s.setX rd (s.csrRead c)).advance)) ∨
          ∃ w, new (s.csrRead c) = some w ∧
            csrAccess rd addr new s = .next (((s.csrWrite c w).setX rd (s.csrRead c)).advance)) := by
  cases h : csrOfAddr addr with
  | none => exact .inl ⟨rfl, by simp only [csrAccess, h]; rfl⟩
  | some c =>
    refine .inr ⟨c, rfl, ?_⟩
    cases hn : new (s.csrRead c) with
    | none => exact .inl ⟨rfl, by simp only [csrAccess, h, hn]⟩
    | some w => exact .inr ⟨w, rfl, by simp only [csrAccess, h, hn]⟩

/-! ### The inputs of a tick -/

@[simp] theorem answer_never (free : Nat → Bool) (c : Nat) : TickInput.never.answer free c = false := rfl
@[simp] theorem answer_always (free : Nat → Bool) (c : Nat) : TickInput.always.answer free c = true := rfl

/-- The flipped input has the opposite answer at one cycle count, and the same elsewhere. -/
theorem answer_flip (free : Nat → Bool) (i : TickInput) (c d : Nat) :
    (i.flip c).answer free d = (i.answer free d ^^ decide (d = c)) := by
  by_cases h : d = c <;> by_cases hc : c ∈ i.except <;> by_cases hd : d ∈ i.except <;>
    simp_all [TickInput.answer, TickInput.flip]

/-- A pinned input still gives the answer it was pinned to. -/
theorem answer_pinned (free free' : Nat → Bool) (i : TickInput) (c : Nat) :
    (i.pinned (i.answer free c)).answer free' c = i.answer free c := by
  obtain ⟨base, except⟩ := i
  cases base with
  | const => rfl
  | free => simp [TickInput.answer, TickInput.pinned]

/-- Placing a word where the next tick fetches leaves the hook's answer alone, so that the tick fetches there. -/
theorem irqAnswers_withFetchWord (s : State) (nbits w : Nat) : (s.withFetchWord nbits w).irqAnswers = s.irqAnswers :=
  answer_pinned _ _ _ _

theorem stopRequested_withFetchWord (s : State) (nbits w : Nat) : (s.withFetchWord nbits w).stopRequested = false := by
  cases h : s.stopRequested <;> simp_all [State.withFetchWord, State.placeWord, State.readyToFetch, State.stopRequested, answer_flip]

/-- No callback takes the next fetch once the word is placed. -/
theorem reply_withFetchWord (s : State) (nbits w : Nat) :
    ((s.withFetchWord nbits w).reply (readReq s.fetchAddr .instructionWord)).handled = false := by
  cases h : (s.reply (readReq s.fetchAddr .instructionWord)).handled <;>
    cases he : s.ext <;>
    simp_all [State.withFetchWord, State.placeWord, State.readyToFetch, State.reply, ExtPort.answer, ExtReply.notHandled]

/-! ### One tick -/

/-- Everything a tick can do (60_exceptions.md R360): it stops, or it ends in a raised kind, or it runs an instruction; with
`s'` the state after the interrupt hook. -/
theorem step_cases (s : State) :
    (s.halted = true ∧ step s = .next s) ∨
      (s.halted = false ∧ ∃ r, s.haltTest = some r ∧ step s = .next (s.haltWith r)) ∨
      (s.halted = false ∧ s.haltTest = none ∧
        ((∃ u, s.interruptHook.fetchDecode = .raised u ∧ step s = .next u.endTick) ∨
          ∃ i u, s.interruptHook.fetchDecode = .instr i u ∧
            step s = (match exec i u with
              | .next v => .next v.endTick
              | .fault r => .fault r
              | .refused r => .refused r))) := by
  cases hh : s.halted
  · right
    cases ht : s.haltTest with
    | some r => exact .inl ⟨rfl, r, rfl, by simp [step, State.beginTick, hh, ht]⟩
    | none =>
      refine .inr ⟨rfl, rfl, ?_⟩
      cases hf : s.interruptHook.fetchDecode with
      | raised u => exact .inl ⟨u, rfl, by simp [step, State.beginTick, hh, ht, hf]⟩
      | instr i u => exact .inr ⟨i, u, rfl, by simp only [step, State.beginTick, hh, ht, hf, Bool.false_eq_true, if_false] <;> rfl⟩
  · exact .inl ⟨rfl, by simp [step, State.beginTick, hh]⟩

end Sys2Proof.Machine
end

