-- ==== Sys2Proof/Laws/Outcomes.lean ====
section
/-! SUPPORT. The shared ways an instruction ends, in the terms claims use: one lemma for each outcome of Ops.lean, Operands.lean and
FloatArith.lean. -/

namespace Sys2Proof.Machine

variable (s : State)

/-! ### What an update leaves alone -/

theorem sameX_of (t : State) (h : t.x = s.x) : SameX s t := readX_of_x s t h
theorem sameF_of (t : State) (h : t.f = s.f) : SameF s t := readF_of_f s t h
theorem sameRam_of (t : State) (h : t.memory = s.memory) : SameRam s t := ramByte_of_memory s t h

theorem xWritten_of (t : State) (rd : XReg) (v : Word) (h : t.x = (s.setX rd v).x) : XWritten rd v s t := fun r => by
  rw [readX_of_x (s.setX rd v) t h, readX_setX]

theorem fWritten_of (t : State) (rd : FReg) (v : Word) (h : t.f = (s.setF32 rd v).f) : FWritten rd v s t := fun r => by
  rw [readF_of_f (s.setF32 rd v) t h, State.setF32, readF_setF]; rfl

/-! ### Completions -/

theorem completesX_next (target : Word) (rd : XReg) (v : Word) :
    CompletesX target rd v s (.next ((s.setX rd v).setPc target)) :=
  ⟨_, rfl, rfl, xWritten_of s _ rd v rfl, sameF_of s _ (by simp), ⟨by simp, by simp, by simp⟩, sameRam_of s _ (by simp), by simp,
    ⟨by constructor <;> simp, by constructor <;> simp, by simp, by simp⟩⟩

theorem completesX_writeX (rd : XReg) (v : Word) : CompletesX (s.pc + 4#32) rd v s (writeX rd v s) := by
  have h := completesX_next s (s.pc + 4#32) rd v
  simpa [writeX, State.advance] using h

theorem completesPc_next (target : Word) : CompletesPc target s (.next (s.setPc target)) :=
  ⟨_, rfl, rfl, sameX_of s _ rfl, sameF_of s _ rfl, ⟨rfl, rfl, rfl⟩, sameRam_of s _ rfl, rfl,
    ⟨⟨rfl, rfl, rfl, rfl, rfl, rfl⟩, ⟨rfl, rfl⟩, rfl, rfl⟩⟩

theorem completesPc_branchIf (taken : Bool) (offset : Word) :
    CompletesPc (if taken then s.pc + offset else s.pc + 4#32) s (branchIf taken offset s) := by
  cases taken
  · exact completesPc_next s _
  · exact completesPc_next s _

theorem completesF_finishF (rd : FReg) (rF : Word × FpFlags) : CompletesF rd rF.1 rF.2 s (.next (finishF rd rF s)) :=
  ⟨_, rfl, rfl, fWritten_of s _ rd rF.1 rfl, ⟨rfl, rfl, rfl⟩, sameX_of s _ rfl, sameRam_of s _ rfl, rfl,
    ⟨⟨rfl, rfl, rfl, rfl, rfl, rfl⟩, ⟨rfl, rfl⟩, rfl, rfl⟩⟩

theorem completesXF_finishX (rd : XReg) (rF : Word × FpFlags) : CompletesXF rd rF.1 rF.2 s (.next (finishX rd rF s)) :=
  ⟨_, rfl, by simp [finishX], xWritten_of s _ rd rF.1 rfl, by simp [Accrued, finishX], sameF_of s _ (by simp [finishX]),
    sameRam_of s _ (by simp [finishX]), by simp [finishX],
    ⟨by constructor <;> simp [finishX], by constructor <;> simp [finishX], by simp [finishX], by simp [finishX]⟩⟩

theorem bits_empty : FpFlags.empty.bits = 0#32 := by decide

/-- A register write without flags is a completion with the empty set. -/
theorem completesF_writeF (rd : FReg) (v : Word) : CompletesF rd v .empty s (writeF rd v s) :=
  ⟨_, rfl, rfl, fWritten_of s _ rd v rfl, by simp [Accrued, bits_empty], sameX_of s _ rfl, sameRam_of s _ rfl, rfl,
    ⟨⟨rfl, rfl, rfl, rfl, rfl, rfl⟩, ⟨rfl, rfl⟩, rfl, rfl⟩⟩

theorem completesXF_writeX (rd : XReg) (v : Word) : CompletesXF rd v .empty s (writeX rd v s) :=
  ⟨_, rfl, by simp, xWritten_of s _ rd v rfl, by simp [Accrued, bits_empty], sameF_of s _ (by simp), sameRam_of s _ (by simp),
    by simp, ⟨by constructor <;> simp, by constructor <;> simp, by simp, by simp⟩⟩

/-! ### Loads and stores -/

theorem completesLoadX (req : ExtRequest) (rd : XReg) (v : Word) :
    CompletesLoadX req rd v s (.next (((s.asked req).setX rd v).advance)) :=
  ⟨_, rfl, by simp [State.asked], xWritten_of s _ rd v (by simp [State.asked, State.setX]; split <;> rfl),
    sameF_of s _ (by simp [State.asked]), ⟨by simp [State.asked], by simp [State.asked], by simp [State.asked]⟩,
    sameRam_of s _ (by simp [State.asked]), by simp [ExtAsked, State.asked],
    ⟨by constructor <;> simp [State.asked], by constructor <;> simp [State.asked], by simp [State.asked], by simp [State.asked]⟩⟩

theorem completesLoadF (req : ExtRequest) (rd : FReg) (v : Word) :
    CompletesLoadF req rd v s (.next (((s.asked req).setF32 rd v).advance)) :=
  ⟨_, rfl, rfl, fWritten_of s _ rd v rfl, sameX_of s _ rfl, ⟨rfl, rfl, rfl⟩, sameRam_of s _ rfl, rfl,
    ⟨⟨rfl, rfl, rfl, rfl, rfl, rfl⟩, ⟨rfl, rfl⟩, rfl, rfl⟩⟩

theorem loadThen_ram (type : AccessType) (a : Word) (put : Word → State → State) (h : ServedByRam (readReq a type) s) :
    loadThen type a put s = .next ((put (BitVec.ofNat 32 (s.leNat a type.bytes)) (s.asked (readReq a type))).advance) := by
  simp only [loadThen, memRead_ram type a s h]

theorem loadThen_ext (type : AccessType) (a : Word) (put : Word → State → State) (h : ServedByExt (readReq a type) s) :
    loadThen type a put s = .next ((put (lowBytes (s.reply (readReq a type)).dataOut type.bytes) (s.asked (readReq a type))).advance) := by
  simp only [loadThen, memRead_ext type a s h]

theorem trapped_asked (k : TrapCause) (req : ExtRequest) :
    Trapped k s (({ s.asked req with faultFlag := false } : State).trapEntry k) :=
  ⟨rfl, rfl, rfl, sameX_of s _ rfl, sameF_of s _ rfl, ⟨rfl, rfl, rfl⟩, sameRam_of s _ rfl, rfl, ⟨rfl, rfl, rfl, rfl, rfl, rfl⟩⟩

theorem trapsOnAccess_loadThen (type : AccessType) (a : Word) (put : Word → State → State) (h : NotServed (readReq a type) s) :
    TrapsOnAccess .accessFaultLoad (readReq a type) s (loadThen type a put s) :=
  ⟨_, by simp only [loadThen, memRead_fault type a s h]; rfl, trapped_asked s _ (readReq a type), rfl, rfl⟩

theorem storeThen_ram (type : AccessType) (a v : Word) (h : ServedByRam (writeReq a v type) s) :
    storeThen type a v s =
      .next ({ s.asked (writeReq a v type) with memory := storeBytes a v s.memory type.bytes } : State).advance := by
  simp only [storeThen, memWrite_ram type a v s h]

theorem storeThen_ext (type : AccessType) (a v : Word) (h : ServedByExt (writeReq a v type) s) :
    storeThen type a v s = .next (s.asked (writeReq a v type)).advance := by
  simp only [storeThen, memWrite_ext type a v s h]

theorem completesStore_storeThen (type : AccessType) (a v : Word) (h : ServedByRam (writeReq a v type) s) :
    CompletesStore (writeReq a v type) a v type.bytes s (storeThen type a v s) :=
  ⟨_, storeThen_ram s type a v h, rfl,
    ramWritten_storeBytes a v type.bytes (accessType_bytes_le type) s _ rfl, sameX_of s _ rfl, sameF_of s _ rfl, ⟨rfl, rfl, rfl⟩,
    rfl, ⟨⟨rfl, rfl, rfl, rfl, rfl, rfl⟩, ⟨rfl, rfl⟩, rfl, rfl⟩⟩

theorem completesStoreExt_storeThen (type : AccessType) (a v : Word) (h : ServedByExt (writeReq a v type) s) :
    CompletesStoreExt (writeReq a v type) s (storeThen type a v s) :=
  ⟨_, storeThen_ext s type a v h, rfl, sameRam_of s _ rfl, sameX_of s _ rfl, sameF_of s _ rfl,
    ⟨rfl, rfl, rfl⟩, rfl, ⟨⟨rfl, rfl, rfl, rfl, rfl, rfl⟩, ⟨rfl, rfl⟩, rfl, rfl⟩⟩

theorem trapsOnAccess_storeThen (type : AccessType) (a v : Word) (h : NotServed (writeReq a v type) s) :
    TrapsOnAccess .accessFaultStore (writeReq a v type) s (storeThen type a v s) :=
  ⟨_, by simp only [storeThen, memWrite_fault type a v s h]; rfl, trapped_asked s _ (writeReq a v type), rfl, rfl⟩

/-! ### Traps and halts -/

theorem trapped_trapEntry (k : TrapCause) : Trapped k s (s.trapEntry k) :=
  ⟨rfl, rfl, rfl, sameX_of s _ rfl, sameF_of s _ rfl, ⟨rfl, rfl, rfl⟩, sameRam_of s _ rfl, rfl, ⟨rfl, rfl, rfl, rfl, rfl, rfl⟩⟩

theorem traps_trapEntry (k : TrapCause) : Traps k s (.next (s.trapEntry k)) := ⟨_, rfl, trapped_trapEntry s k, rfl, rfl⟩

theorem halts_haltWith (r : HaltReason) : Halts r s (.next (s.haltWith r)) :=
  ⟨_, rfl, rfl, rfl, sameX_of s _ rfl, sameF_of s _ rfl, ⟨rfl, rfl, rfl⟩, sameRam_of s _ rfl, ⟨rfl, rfl⟩,
    ⟨rfl, rfl, rfl, rfl, rfl, rfl⟩, rfl, rfl⟩

/-! ### CSRs -/

theorem completesCsr_csrAccess (rd : XReg) (addr : CsrAddr) (new : Word → Option Word) (c : Csr) (h : csrOfAddr addr = some c) :
    CompletesCsr c (new (s.csrRead c)) rd s (csrAccess rd addr new s) := by
  rcases csrAccess_cases rd addr new s with ⟨hn, _⟩ | ⟨d, hd, ⟨hw, he⟩ | ⟨w, hw, he⟩⟩
  · simp [h] at hn
  all_goals
    obtain rfl : d = c := by simpa [h] using hd.symm
    rw [he, hw]
  · exact ⟨_, rfl, by simp, xWritten_of s _ rd _ rfl, sameF_of s _ (by simp), sameRam_of s _ (by simp), by simp,
      ⟨by constructor <;> simp, by constructor <;> simp, by simp, by simp⟩, ⟨by simp, by simp, by simp⟩⟩
  · refine ⟨_, rfl, by simp, xWritten_of s _ rd _ (by simp only [advance_x, State.setX]; split <;> simp), sameF_of s _ (by simp), sameRam_of s _ (by simp), by simp,
      ⟨by constructor <;> simp, by constructor <;> simp, by simp, by simp⟩, ?_⟩
    have hs := csrStored_csrWrite d w s
    cases d <;> simpa [CsrStored, SameFpCsr] using hs

theorem traps_csrAccess (rd : XReg) (addr : CsrAddr) (new : Word → Option Word) (h : csrOfAddr addr = none) :
    Traps .illegalCsr s (csrAccess rd addr new s) := by
  have he : csrAccess rd addr new s = .next (s.trapEntry .illegalCsr) := by simp only [csrAccess, h]; rfl
  rw [he]; exact traps_trapEntry s _

end Sys2Proof.Machine
end

