-- ==== Sys2Proof/Laws/PerInstr.lean ====
section
/-! SUPPORT. The family of per-instruction statements about encodings: the low seven bits of every instruction's word are its
primary opcode, and it ends in `11` (30_encoding.md R90, R101). -/

namespace Sys2Proof.Laws.OpcodeBits

/-- The primary opcode of an instruction (R101). -/
def primaryOpcode : Instr → BitVec 7
  | .lui .. => 0x37#7
  | .auipc .. => 0x17#7
  | .jal .. => 0x6F#7
  | .jalr .. => 0x67#7
  | .beq .. => 0x63#7
  | .bne .. => 0x63#7
  | .blt .. => 0x63#7
  | .bge .. => 0x63#7
  | .bltu .. => 0x63#7
  | .bgeu .. => 0x63#7
  | .lb .. => 0x03#7
  | .lh .. => 0x03#7
  | .lw .. => 0x03#7
  | .lbu .. => 0x03#7
  | .lhu .. => 0x03#7
  | .sb .. => 0x23#7
  | .sh .. => 0x23#7
  | .sw .. => 0x23#7
  | .addi .. => 0x13#7
  | .slti .. => 0x13#7
  | .sltiu .. => 0x13#7
  | .xori .. => 0x13#7
  | .ori .. => 0x13#7
  | .andi .. => 0x13#7
  | .slli .. => 0x13#7
  | .srli .. => 0x13#7
  | .srai .. => 0x13#7
  | .add .. => 0x33#7
  | .sub .. => 0x33#7
  | .sll .. => 0x33#7
  | .slt .. => 0x33#7
  | .sltu .. => 0x33#7
  | .xor .. => 0x33#7
  | .srl .. => 0x33#7
  | .sra .. => 0x33#7
  | .or .. => 0x33#7
  | .and .. => 0x33#7
  | .fence .. => 0x0F#7
  | .ecall => 0x73#7
  | .ebreak => 0x73#7
  | .mul .. => 0x33#7
  | .mulh .. => 0x33#7
  | .mulhsu .. => 0x33#7
  | .mulhu .. => 0x33#7
  | .div .. => 0x33#7
  | .divu .. => 0x33#7
  | .rem .. => 0x33#7
  | .remu .. => 0x33#7
  | .csrrw .. => 0x73#7
  | .csrrs .. => 0x73#7
  | .csrrc .. => 0x73#7
  | .csrrwi .. => 0x73#7
  | .csrrsi .. => 0x73#7
  | .csrrci .. => 0x73#7
  | .flw .. => 0x07#7
  | .fsw .. => 0x27#7
  | .fmaddS .. => 0x43#7
  | .fmsubS .. => 0x47#7
  | .fnmsubS .. => 0x4B#7
  | .fnmaddS .. => 0x4F#7
  | .faddS .. => 0x53#7
  | .fsubS .. => 0x53#7
  | .fmulS .. => 0x53#7
  | .fdivS .. => 0x53#7
  | .fsqrtS .. => 0x53#7
  | .fsgnjS .. => 0x53#7
  | .fsgnjnS .. => 0x53#7
  | .fsgnjxS .. => 0x53#7
  | .fminS .. => 0x53#7
  | .fmaxS .. => 0x53#7
  | .fcvtWS .. => 0x53#7
  | .fcvtWuS .. => 0x53#7
  | .fmvXW .. => 0x53#7
  | .feqS .. => 0x53#7
  | .fltS .. => 0x53#7
  | .fleS .. => 0x53#7
  | .fclassS .. => 0x53#7
  | .fcvtSW .. => 0x53#7
  | .fcvtSWu .. => 0x53#7
  | .fmvWX .. => 0x53#7

/-- The statement of the family. -/
def Statement (i : Instr) : Prop :=
  WordField.opcode (encode i) = primaryOpcode i ∧ (encode i).extractLsb' 0 2 = 0b11#2

/-- A word that ends in the seven bits `o` has them as its opcode field. -/
theorem opcode_append (x : BitVec 25) (o : BitVec 7) : WordField.opcode (x ++ o : BitVec 32) = o := by
  apply BitVec.eq_of_getElem_eq
  intro i hi
  have h : (x ++ o).getLsbD i = o[i] := (BitVec.getLsbD_append (x := x) (y := o) (i := i)).trans (by simp [hi])
  simpa [WordField.opcode, hi] using h

/-- The low two bits are those of the opcode field. -/
theorem low_of_opcode (w : Word) : w.extractLsb' 0 2 = (WordField.opcode w).extractLsb' 0 2 := by
  unfold WordField.opcode; ext i; simp

theorem primaryOpcode_low (i : Instr) : (primaryOpcode i).extractLsb' 0 2 = 0b11#2 := by cases i <;> (simp only [primaryOpcode]; decide)

/-- A word whose opcode field is a populated cell of R101 ends in `11`. -/
theorem statement_of_opcode (i : Instr) (h : WordField.opcode (encode i) = primaryOpcode i) : Statement i :=
  ⟨h, by rw [low_of_opcode, h, primaryOpcode_low]⟩

theorem lui (rd : XReg) (imm : Word) : Statement (.lui rd imm) :=
  statement_of_opcode _ (opcode_append _ _)

theorem auipc (rd : XReg) (imm : Word) : Statement (.auipc rd imm) :=
  statement_of_opcode _ (opcode_append _ _)

theorem jal (rd : XReg) (imm : Word) : Statement (.jal rd imm) :=
  statement_of_opcode _ (opcode_append _ _)

theorem jalr (rd : XReg) (rs1 : XReg) (imm : Word) (ignored : BitVec 3) : Statement (.jalr rd rs1 imm ignored) :=
  statement_of_opcode _ (opcode_append _ _)

theorem beq (rs1 : XReg) (rs2 : XReg) (imm : Word) : Statement (.beq rs1 rs2 imm) :=
  statement_of_opcode _ (opcode_append _ _)

theorem bne (rs1 : XReg) (rs2 : XReg) (imm : Word) : Statement (.bne rs1 rs2 imm) :=
  statement_of_opcode _ (opcode_append _ _)

theorem blt (rs1 : XReg) (rs2 : XReg) (imm : Word) : Statement (.blt rs1 rs2 imm) :=
  statement_of_opcode _ (opcode_append _ _)

theorem bge (rs1 : XReg) (rs2 : XReg) (imm : Word) : Statement (.bge rs1 rs2 imm) :=
  statement_of_opcode _ (opcode_append _ _)

theorem bltu (rs1 : XReg) (rs2 : XReg) (imm : Word) : Statement (.bltu rs1 rs2 imm) :=
  statement_of_opcode _ (opcode_append _ _)

theorem bgeu (rs1 : XReg) (rs2 : XReg) (imm : Word) : Statement (.bgeu rs1 rs2 imm) :=
  statement_of_opcode _ (opcode_append _ _)

theorem lb (rd : XReg) (rs1 : XReg) (imm : Word) : Statement (.lb rd rs1 imm) :=
  statement_of_opcode _ (opcode_append _ _)

theorem lh (rd : XReg) (rs1 : XReg) (imm : Word) : Statement (.lh rd rs1 imm) :=
  statement_of_opcode _ (opcode_append _ _)

theorem lw (rd : XReg) (rs1 : XReg) (imm : Word) : Statement (.lw rd rs1 imm) :=
  statement_of_opcode _ (opcode_append _ _)

theorem lbu (rd : XReg) (rs1 : XReg) (imm : Word) : Statement (.lbu rd rs1 imm) :=
  statement_of_opcode _ (opcode_append _ _)

theorem lhu (rd : XReg) (rs1 : XReg) (imm : Word) : Statement (.lhu rd rs1 imm) :=
  statement_of_opcode _ (opcode_append _ _)

theorem sb (rs1 : XReg) (rs2 : XReg) (imm : Word) : Statement (.sb rs1 rs2 imm) :=
  statement_of_opcode _ (opcode_append _ _)

theorem sh (rs1 : XReg) (rs2 : XReg) (imm : Word) : Statement (.sh rs1 rs2 imm) :=
  statement_of_opcode _ (opcode_append _ _)

theorem sw (rs1 : XReg) (rs2 : XReg) (imm : Word) : Statement (.sw rs1 rs2 imm) :=
  statement_of_opcode _ (opcode_append _ _)

theorem addi (rd : XReg) (rs1 : XReg) (imm : Word) : Statement (.addi rd rs1 imm) :=
  statement_of_opcode _ (opcode_append _ _)

theorem slti (rd : XReg) (rs1 : XReg) (imm : Word) : Statement (.slti rd rs1 imm) :=
  statement_of_opcode _ (opcode_append _ _)

theorem sltiu (rd : XReg) (rs1 : XReg) (imm : Word) : Statement (.sltiu rd rs1 imm) :=
  statement_of_opcode _ (opcode_append _ _)

theorem xori (rd : XReg) (rs1 : XReg) (imm : Word) : Statement (.xori rd rs1 imm) :=
  statement_of_opcode _ (opcode_append _ _)

theorem ori (rd : XReg) (rs1 : XReg) (imm : Word) : Statement (.ori rd rs1 imm) :=
  statement_of_opcode _ (opcode_append _ _)

theorem andi (rd : XReg) (rs1 : XReg) (imm : Word) : Statement (.andi rd rs1 imm) :=
  statement_of_opcode _ (opcode_append _ _)

theorem slli (rd : XReg) (rs1 : XReg) (shamt : BitVec 5) : Statement (.slli rd rs1 shamt) :=
  statement_of_opcode _ (opcode_append _ _)

theorem srli (rd : XReg) (rs1 : XReg) (shamt : BitVec 5) : Statement (.srli rd rs1 shamt) :=
  statement_of_opcode _ (opcode_append _ _)

theorem srai (rd : XReg) (rs1 : XReg) (shamt : BitVec 5) : Statement (.srai rd rs1 shamt) :=
  statement_of_opcode _ (opcode_append _ _)

theorem add (rd : XReg) (rs1 : XReg) (rs2 : XReg) : Statement (.add rd rs1 rs2) :=
  statement_of_opcode _ (opcode_append _ _)

theorem sub (rd : XReg) (rs1 : XReg) (rs2 : XReg) : Statement (.sub rd rs1 rs2) :=
  statement_of_opcode _ (opcode_append _ _)

theorem sll (rd : XReg) (rs1 : XReg) (rs2 : XReg) : Statement (.sll rd rs1 rs2) :=
  statement_of_opcode _ (opcode_append _ _)

theorem slt (rd : XReg) (rs1 : XReg) (rs2 : XReg) : Statement (.slt rd rs1 rs2) :=
  statement_of_opcode _ (opcode_append _ _)

theorem sltu (rd : XReg) (rs1 : XReg) (rs2 : XReg) : Statement (.sltu rd rs1 rs2) :=
  statement_of_opcode _ (opcode_append _ _)

theorem xor (rd : XReg) (rs1 : XReg) (rs2 : XReg) : Statement (.xor rd rs1 rs2) :=
  statement_of_opcode _ (opcode_append _ _)

theorem srl (rd : XReg) (rs1 : XReg) (rs2 : XReg) : Statement (.srl rd rs1 rs2) :=
  statement_of_opcode _ (opcode_append _ _)

theorem sra (rd : XReg) (rs1 : XReg) (rs2 : XReg) : Statement (.sra rd rs1 rs2) :=
  statement_of_opcode _ (opcode_append _ _)

theorem or (rd : XReg) (rs1 : XReg) (rs2 : XReg) : Statement (.or rd rs1 rs2) :=
  statement_of_opcode _ (opcode_append _ _)

theorem and (rd : XReg) (rs1 : XReg) (rs2 : XReg) : Statement (.and rd rs1 rs2) :=
  statement_of_opcode _ (opcode_append _ _)

theorem fence (ignored : BitVec 25) : Statement (.fence ignored) :=
  statement_of_opcode _ (opcode_append _ _)

theorem ecall : Statement .ecall := statement_of_opcode _ (by decide)

theorem ebreak : Statement .ebreak := statement_of_opcode _ (by decide)

theorem mul (rd : XReg) (rs1 : XReg) (rs2 : XReg) : Statement (.mul rd rs1 rs2) :=
  statement_of_opcode _ (opcode_append _ _)

theorem mulh (rd : XReg) (rs1 : XReg) (rs2 : XReg) : Statement (.mulh rd rs1 rs2) :=
  statement_of_opcode _ (opcode_append _ _)

theorem mulhsu (rd : XReg) (rs1 : XReg) (rs2 : XReg) : Statement (.mulhsu rd rs1 rs2) :=
  statement_of_opcode _ (opcode_append _ _)

theorem mulhu (rd : XReg) (rs1 : XReg) (rs2 : XReg) : Statement (.mulhu rd rs1 rs2) :=
  statement_of_opcode _ (opcode_append _ _)

theorem div (rd : XReg) (rs1 : XReg) (rs2 : XReg) : Statement (.div rd rs1 rs2) :=
  statement_of_opcode _ (opcode_append _ _)

theorem divu (rd : XReg) (rs1 : XReg) (rs2 : XReg) : Statement (.divu rd rs1 rs2) :=
  statement_of_opcode _ (opcode_append _ _)

theorem rem (rd : XReg) (rs1 : XReg) (rs2 : XReg) : Statement (.rem rd rs1 rs2) :=
  statement_of_opcode _ (opcode_append _ _)

theorem remu (rd : XReg) (rs1 : XReg) (rs2 : XReg) : Statement (.remu rd rs1 rs2) :=
  statement_of_opcode _ (opcode_append _ _)

theorem csrrw (rd : XReg) (csr : CsrAddr) (rs1 : XReg) : Statement (.csrrw rd csr rs1) :=
  statement_of_opcode _ (opcode_append _ _)

theorem csrrs (rd : XReg) (csr : CsrAddr) (rs1 : XReg) : Statement (.csrrs rd csr rs1) :=
  statement_of_opcode _ (opcode_append _ _)

theorem csrrc (rd : XReg) (csr : CsrAddr) (rs1 : XReg) : Statement (.csrrc rd csr rs1) :=
  statement_of_opcode _ (opcode_append _ _)

theorem csrrwi (rd : XReg) (csr : CsrAddr) (uimm : BitVec 5) : Statement (.csrrwi rd csr uimm) :=
  statement_of_opcode _ (opcode_append _ _)

theorem csrrsi (rd : XReg) (csr : CsrAddr) (uimm : BitVec 5) : Statement (.csrrsi rd csr uimm) :=
  statement_of_opcode _ (opcode_append _ _)

theorem csrrci (rd : XReg) (csr : CsrAddr) (uimm : BitVec 5) : Statement (.csrrci rd csr uimm) :=
  statement_of_opcode _ (opcode_append _ _)

theorem flw (rd : FReg) (rs1 : XReg) (imm : Word) : Statement (.flw rd rs1 imm) :=
  statement_of_opcode _ (opcode_append _ _)

theorem fsw (rs1 : XReg) (rs2 : FReg) (imm : Word) : Statement (.fsw rs1 rs2 imm) :=
  statement_of_opcode _ (opcode_append _ _)

theorem fmaddS (rd : FReg) (rs1 : FReg) (rs2 : FReg) (rs3 : FReg) (rm : RmField) : Statement (.fmaddS rd rs1 rs2 rs3 rm) :=
  statement_of_opcode _ (opcode_append _ _)

theorem fmsubS (rd : FReg) (rs1 : FReg) (rs2 : FReg) (rs3 : FReg) (rm : RmField) : Statement (.fmsubS rd rs1 rs2 rs3 rm) :=
  statement_of_opcode _ (opcode_append _ _)

theorem fnmsubS (rd : FReg) (rs1 : FReg) (rs2 : FReg) (rs3 : FReg) (rm : RmField) : Statement (.fnmsubS rd rs1 rs2 rs3 rm) :=
  statement_of_opcode _ (opcode_append _ _)

theorem fnmaddS (rd : FReg) (rs1 : FReg) (rs2 : FReg) (rs3 : FReg) (rm : RmField) : Statement (.fnmaddS rd rs1 rs2 rs3 rm) :=
  statement_of_opcode _ (opcode_append _ _)

theorem faddS (rd : FReg) (rs1 : FReg) (rs2 : FReg) (rm : RmField) : Statement (.faddS rd rs1 rs2 rm) :=
  statement_of_opcode _ (opcode_append _ _)

theorem fsubS (rd : FReg) (rs1 : FReg) (rs2 : FReg) (rm : RmField) : Statement (.fsubS rd rs1 rs2 rm) :=
  statement_of_opcode _ (opcode_append _ _)

theorem fmulS (rd : FReg) (rs1 : FReg) (rs2 : FReg) (rm : RmField) : Statement (.fmulS rd rs1 rs2 rm) :=
  statement_of_opcode _ (opcode_append _ _)

theorem fdivS (rd : FReg) (rs1 : FReg) (rs2 : FReg) (rm : RmField) : Statement (.fdivS rd rs1 rs2 rm) :=
  statement_of_opcode _ (opcode_append _ _)

theorem fsqrtS (rd : FReg) (rs1 : FReg) (rm : RmField) : Statement (.fsqrtS rd rs1 rm) :=
  statement_of_opcode _ (opcode_append _ _)

theorem fsgnjS (rd : FReg) (rs1 : FReg) (rs2 : FReg) : Statement (.fsgnjS rd rs1 rs2) :=
  statement_of_opcode _ (opcode_append _ _)

theorem fsgnjnS (rd : FReg) (rs1 : FReg) (rs2 : FReg) : Statement (.fsgnjnS rd rs1 rs2) :=
  statement_of_opcode _ (opcode_append _ _)

theorem fsgnjxS (rd : FReg) (rs1 : FReg) (rs2 : FReg) : Statement (.fsgnjxS rd rs1 rs2) :=
  statement_of_opcode _ (opcode_append _ _)

theorem fminS (rd : FReg) (rs1 : FReg) (rs2 : FReg) : Statement (.fminS rd rs1 rs2) :=
  statement_of_opcode _ (opcode_append _ _)

theorem fmaxS (rd : FReg) (rs1 : FReg) (rs2 : FReg) : Statement (.fmaxS rd rs1 rs2) :=
  statement_of_opcode _ (opcode_append _ _)

theorem fcvtWS (rd : XReg) (rs1 : FReg) (rm : RmField) : Statement (.fcvtWS rd rs1 rm) :=
  statement_of_opcode _ (opcode_append _ _)

theorem fcvtWuS (rd : XReg) (rs1 : FReg) (rm : RmField) : Statement (.fcvtWuS rd rs1 rm) :=
  statement_of_opcode _ (opcode_append _ _)

theorem fmvXW (rd : XReg) (rs1 : FReg) : Statement (.fmvXW rd rs1) :=
  statement_of_opcode _ (opcode_append _ _)

theorem feqS (rd : XReg) (rs1 : FReg) (rs2 : FReg) : Statement (.feqS rd rs1 rs2) :=
  statement_of_opcode _ (opcode_append _ _)

theorem fltS (rd : XReg) (rs1 : FReg) (rs2 : FReg) : Statement (.fltS rd rs1 rs2) :=
  statement_of_opcode _ (opcode_append _ _)

theorem fleS (rd : XReg) (rs1 : FReg) (rs2 : FReg) : Statement (.fleS rd rs1 rs2) :=
  statement_of_opcode _ (opcode_append _ _)

theorem fclassS (rd : XReg) (rs1 : FReg) : Statement (.fclassS rd rs1) :=
  statement_of_opcode _ (opcode_append _ _)

theorem fcvtSW (rd : FReg) (rs1 : XReg) (rm : RmField) : Statement (.fcvtSW rd rs1 rm) :=
  statement_of_opcode _ (opcode_append _ _)

theorem fcvtSWu (rd : FReg) (rs1 : XReg) (rm : RmField) : Statement (.fcvtSWu rd rs1 rm) :=
  statement_of_opcode _ (opcode_append _ _)

theorem fmvWX (rd : FReg) (rs1 : XReg) : Statement (.fmvWX rd rs1) :=
  statement_of_opcode _ (opcode_append _ _)

end Sys2Proof.Laws.OpcodeBits
end

