-- ==== Sys2Proof/Tests/Slice0.lean ====
section
/-! SUPPORT. Small tests: ill-formed terms, decoded words, one step of each instruction, and witnesses that the hypotheses of the
statements are met. Words, operands and results are those of spec/95_test_vectors.md unless a comment says otherwise. -/

set_option Elab.async false

namespace Sys2Proof.Tests

open Sys2Proof Sys2Proof.Machine

/-! ### Ill-formed terms are refused -/

theorem test_imm12_out_of_range :
    Instr.wf (.addi 1#5 2#5 2048#32) = false ∧ Instr.wf (.lw 1#5 2#5 0xFFFFF7FF#32) = false ∧
    Instr.wf (.sw 1#5 2#5 2048#32) = false ∧ Instr.wf (.fsw 1#5 2#5 0x80000000#32) = false ∧
    Instr.wf (.jalr 1#5 2#5 4096#32 0#3) = false := by decide

theorem test_branchImm_out_of_range_or_odd :
    Instr.wf (.beq 1#5 2#5 4096#32) = false ∧ Instr.wf (.bge 1#5 2#5 0xFFFFEFFE#32) = false ∧
    Instr.wf (.bltu 1#5 2#5 1#32) = false := by decide

theorem test_upperImm_low_bits : Instr.wf (.lui 1#5 1#32) = false ∧ Instr.wf (.auipc 1#5 0xFFFFF800#32) = false := by decide

theorem test_jumpImm_out_of_range_or_odd :
    Instr.wf (.jal 1#5 0x100000#32) = false ∧ Instr.wf (.jal 1#5 0xFFEFFFFE#32) = false ∧ Instr.wf (.jal 1#5 3#32) = false := by
  decide

/-! ### Decoding: one word for every constructor -/

theorem test_decode_upper_and_jumps :
    decode 0xABCDE2B7#32 = .ok (.lui 5#5 0xABCDE000#32) ∧
    decode 0x00001297#32 = .ok (.auipc 5#5 0x00001000#32) ∧
    decode 0x800000EF#32 = .ok (.jal 1#5 0xFFF00000#32) ∧
    decode 0xFFF280E7#32 = .ok (.jalr 1#5 5#5 0xFFFFFFFF#32 0#3) := by decide +kernel

theorem test_decode_branches :
    decode 0xFE000CE3#32 = .ok (.beq 0#5 0#5 0xFFFFFFF8#32) ∧
    decode 0x80001063#32 = .ok (.bne 0#5 0#5 0xFFFFF000#32) ∧
    decode 0x0062C463#32 = .ok (.blt 5#5 6#5 0x00000008#32) ∧
    decode 0x0062D863#32 = .ok (.bge 5#5 6#5 0x00000010#32) ∧
    decode 0x0062E463#32 = .ok (.bltu 5#5 6#5 0x00000008#32) ∧
    decode 0x7E007FE3#32 = .ok (.bgeu 0#5 0#5 0x00000FFE#32) := by decide +kernel

theorem test_decode_loads_and_stores :
    decode 0xFFF00383#32 = .ok (.lb 7#5 0#5 0xFFFFFFFF#32) ∧
    decode 0x00329383#32 = .ok (.lh 7#5 5#5 0x00000003#32) ∧
    decode 0xFFC2A383#32 = .ok (.lw 7#5 5#5 0xFFFFFFFC#32) ∧
    decode 0x0012C383#32 = .ok (.lbu 7#5 5#5 0x00000001#32) ∧
    decode 0x0022D383#32 = .ok (.lhu 7#5 5#5 0x00000002#32) ∧
    decode 0x006281A3#32 = .ok (.sb 5#5 6#5 0x00000003#32) ∧
    decode 0x00629123#32 = .ok (.sh 5#5 6#5 0x00000002#32) ∧
    decode 0xFE62AFA3#32 = .ok (.sw 5#5 6#5 0xFFFFFFFF#32) ∧
    decode 0xFFC2A387#32 = .ok (.flw 7#5 5#5 0xFFFFFFFC#32) ∧
    decode 0x0062A027#32 = .ok (.fsw 5#5 6#5 0x00000000#32) := by decide +kernel

theorem test_decode_alu_immediates :
    decode 0xFFF00293#32 = .ok (.addi 5#5 0#5 0xFFFFFFFF#32) ∧
    decode 0xFFF32293#32 = .ok (.slti 5#5 6#5 0xFFFFFFFF#32) ∧
    decode 0xFFF33293#32 = .ok (.sltiu 5#5 6#5 0xFFFFFFFF#32) ∧
    decode 0xFFF34293#32 = .ok (.xori 5#5 6#5 0xFFFFFFFF#32) ∧
    decode 0x80036293#32 = .ok (.ori 5#5 6#5 0xFFFFF800#32) ∧
    decode 0x7FF37293#32 = .ok (.andi 5#5 6#5 0x000007FF#32) ∧
    decode 0x00031293#32 = .ok (.slli 5#5 6#5 0#5) ∧
    decode 0x00135293#32 = .ok (.srli 5#5 6#5 1#5) ∧
    decode 0x40135293#32 = .ok (.srai 5#5 6#5 1#5) := by decide +kernel

theorem test_decode_alu_registers :
    decode 0x006283B3#32 = .ok (.add 7#5 5#5 6#5) ∧
    decode 0x406283B3#32 = .ok (.sub 7#5 5#5 6#5) ∧
    decode 0x006293B3#32 = .ok (.sll 7#5 5#5 6#5) ∧
    decode 0x0062A3B3#32 = .ok (.slt 7#5 5#5 6#5) ∧
    decode 0x0062B3B3#32 = .ok (.sltu 7#5 5#5 6#5) ∧
    decode 0x0062C3B3#32 = .ok (.xor 7#5 5#5 6#5) ∧
    decode 0x0062D3B3#32 = .ok (.srl 7#5 5#5 6#5) ∧
    decode 0x4062D3B3#32 = .ok (.sra 7#5 5#5 6#5) ∧
    decode 0x0062E3B3#32 = .ok (.or 7#5 5#5 6#5) ∧
    decode 0x0062F3B3#32 = .ok (.and 7#5 5#5 6#5) := by decide +kernel

theorem test_decode_system :
    decode 0x0000100F#32 = .ok (.fence 0x20#25) ∧
    decode 0x00000073#32 = .ok .ecall ∧
    decode 0x00100073#32 = .ok .ebreak ∧
    decode 0x00329073#32 = .ok (.csrrw 0#5 0x003#12 5#5) ∧
    decode 0x003023F3#32 = .ok (.csrrs 7#5 0x003#12 0#5) ∧
    decode 0x0032B3F3#32 = .ok (.csrrc 7#5 0x003#12 5#5) ∧
    decode 0x002253F3#32 = .ok (.csrrwi 7#5 0x002#12 4#5) ∧
    decode 0x0018E3F3#32 = .ok (.csrrsi 7#5 0x001#12 17#5) ∧
    decode 0x001FF3F3#32 = .ok (.csrrci 7#5 0x001#12 31#5) := by decide +kernel

theorem test_decode_multiply_and_divide :
    decode 0x026283B3#32 = .ok (.mul 7#5 5#5 6#5) ∧
    decode 0x026293B3#32 = .ok (.mulh 7#5 5#5 6#5) ∧
    decode 0x0262A3B3#32 = .ok (.mulhsu 7#5 5#5 6#5) ∧
    decode 0x0262B3B3#32 = .ok (.mulhu 7#5 5#5 6#5) ∧
    decode 0x0262C3B3#32 = .ok (.div 7#5 5#5 6#5) ∧
    decode 0x0262D3B3#32 = .ok (.divu 7#5 5#5 6#5) ∧
    decode 0x0262E3B3#32 = .ok (.rem 7#5 5#5 6#5) ∧
    decode 0x0262F3B3#32 = .ok (.remu 7#5 5#5 6#5) := by decide +kernel

theorem test_decode_float_arithmetic :
    decode 0x206283C3#32 = .ok (.fmaddS 7#5 5#5 6#5 4#5 (.static .rne)) ∧
    decode 0x206283C7#32 = .ok (.fmsubS 7#5 5#5 6#5 4#5 (.static .rne)) ∧
    decode 0x206283CB#32 = .ok (.fnmsubS 7#5 5#5 6#5 4#5 (.static .rne)) ∧
    decode 0x206283CF#32 = .ok (.fnmaddS 7#5 5#5 6#5 4#5 (.static .rne)) ∧
    decode 0x006283D3#32 = .ok (.faddS 7#5 5#5 6#5 (.static .rne)) ∧
    decode 0x086183D3#32 = .ok (.fsubS 7#5 3#5 6#5 (.static .rne)) ∧
    decode 0x1021F2D3#32 = .ok (.fmulS 5#5 3#5 2#5 .dyn) ∧
    decode 0x1820F1D3#32 = .ok (.fdivS 3#5 1#5 2#5 .dyn) ∧
    decode 0x580274D3#32 = .ok (.fsqrtS 9#5 4#5 .dyn) := by decide +kernel

theorem test_decode_float_moves :
    decode 0x206283D3#32 = .ok (.fsgnjS 7#5 5#5 6#5) ∧
    decode 0x206293D3#32 = .ok (.fsgnjnS 7#5 5#5 6#5) ∧
    decode 0x2062A3D3#32 = .ok (.fsgnjxS 7#5 5#5 6#5) ∧
    decode 0x286283D3#32 = .ok (.fminS 7#5 5#5 6#5) ∧
    decode 0x286293D3#32 = .ok (.fmaxS 7#5 5#5 6#5) ∧
    decode 0xC00283D3#32 = .ok (.fcvtWS 7#5 5#5 (.static .rne)) ∧
    decode 0xC01293D3#32 = .ok (.fcvtWuS 7#5 5#5 (.static .rtz)) ∧
    decode 0xE00283D3#32 = .ok (.fmvXW 7#5 5#5) ∧
    decode 0xA062A3D3#32 = .ok (.feqS 7#5 5#5 6#5) ∧
    decode 0xA06293D3#32 = .ok (.fltS 7#5 5#5 6#5) ∧
    decode 0xA06283D3#32 = .ok (.fleS 7#5 5#5 6#5) ∧
    decode 0xE00293D3#32 = .ok (.fclassS 7#5 5#5) ∧
    decode 0xD002F0D3#32 = .ok (.fcvtSW 1#5 5#5 .dyn) ∧
    decode 0xD01283D3#32 = .ok (.fcvtSWu 7#5 5#5 (.static .rne)) ∧
    decode 0xF00283D3#32 = .ok (.fmvWX 7#5 5#5) := by decide +kernel

/-- One word of each format, laid out field by field as 30_encoding.md R91 to R110 place them. -/
theorem test_decode_bit_by_bit :
    decode (0b10000000000000000001#20 ++ 31#5 ++ 0b0110111#7) = .ok (.lui 31#5 0x80001000#32) ∧
    decode (0b1#1 ++ 0b0000000001#10 ++ 0b0#1 ++ 0b00000000#8 ++ 1#5 ++ 0b1101111#7) = .ok (.jal 1#5 0xFFF00002#32) ∧
    decode (0b100000000001#12 ++ 2#5 ++ 0b000#3 ++ 3#5 ++ 0b1100111#7) = .ok (.jalr 3#5 2#5 0xFFFFF801#32 0#3) ∧
    decode (0b0#1 ++ 0b100000#6 ++ 2#5 ++ 1#5 ++ 0b110#3 ++ 0b0001#4 ++ 0b1#1 ++ 0b1100011#7) = .ok (.bltu 1#5 2#5 0xC02#32) ∧
    decode (0b011111111111#12 ++ 2#5 ++ 0b101#3 ++ 3#5 ++ 0b0000011#7) = .ok (.lhu 3#5 2#5 0x7FF#32) ∧
    decode (0b1000000#7 ++ 3#5 ++ 2#5 ++ 0b001#3 ++ 0b00001#5 ++ 0b0100011#7) = .ok (.sh 2#5 3#5 0xFFFFF801#32) ∧
    decode (0b0100000#7 ++ 30#5 ++ 2#5 ++ 0b101#3 ++ 3#5 ++ 0b0010011#7) = .ok (.srai 3#5 2#5 30#5) ∧
    decode (0b0000001#7 ++ 4#5 ++ 2#5 ++ 0b010#3 ++ 3#5 ++ 0b0110011#7) = .ok (.mulhsu 3#5 2#5 4#5) ∧
    decode (0x301#12 ++ 17#5 ++ 0b111#3 ++ 3#5 ++ 0b1110011#7) = .ok (.csrrci 3#5 0x301#12 17#5) ∧
    decode (8#5 ++ 0b00#2 ++ 4#5 ++ 2#5 ++ 0b011#3 ++ 3#5 ++ 0b1001111#7) = .ok (.fnmaddS 3#5 2#5 4#5 8#5 (.static .rup)) ∧
    decode (0b1010000#7 ++ 4#5 ++ 2#5 ++ 0b001#3 ++ 3#5 ++ 0b1010011#7) = .ok (.fltS 3#5 2#5 4#5) ∧
    decode (0b1101000#7 ++ 0b00001#5 ++ 2#5 ++ 0b111#3 ++ 3#5 ++ 0b1010011#7) = .ok (.fcvtSWu 3#5 2#5 .dyn) := by decide +kernel

/-- `decodeTableWord` lays the bytes out in the order the hardware stores them. -/
theorem test_decodeTableWord :
    decodeTableWord 32 0x00A00293 = some (.addi 5#5 0#5 10#32) ∧ decodeTableWord 32 0xFFFFFFFF = none := by decide +kernel

/-! ### One step of each instruction -/

/-- The state after one step that runs the word `w`, if the step answers one. -/
def ran (w : Nat) (s : State) : Option State :=
  match step (s.withFetchWord 32 w) with
  | .next t => some t
  | _ => none

end Sys2Proof.Tests

namespace Sys2Proof.Machine

/-- `M[a] = v`, four bytes. -/
def State.putWord (a v : Word) (s : State) : State := { s with memory := storeBytes a v s.memory 4 }

/-- `HALT_ON_ECALL = true`. -/
def State.ecallHalts (s : State) : State := { s with cfg := { s.cfg with haltOnEcall := true } }

/-- `HALT_ON_RESERVED = true`. -/
def State.reservedHalts (s : State) : State := { s with cfg := { s.cfg with haltOnReserved := true } }

end Sys2Proof.Machine

namespace Sys2Proof.Tests

open Sys2Proof Sys2Proof.Machine

/-- LUI x5, 0xABCDE. -/
theorem test_lui_1 :
    (ran 0xABCDE2B7 State.reset).map (fun t => (t.readX 5#5, t.pc)) =
      some (0xABCDE000#32, 0x1004#32) := by decide +kernel

/-- LUI x5, 0xFFFFF. -/
theorem test_lui_2 :
    (ran 0xFFFFF2B7 State.reset).map (fun t => (t.readX 5#5, t.pc)) =
      some (0xFFFFF000#32, 0x1004#32) := by decide +kernel

/-- AUIPC x5, 0x1. -/
theorem test_auipc_1 :
    (ran 0x00001297 (State.reset.setPc 0x100#32)).map (fun t => (t.readX 5#5, t.pc)) =
      some (0x1100#32, 0x104#32) := by decide +kernel

/-- AUIPC x5, 0xFFFFF. -/
theorem test_auipc_2 :
    (ran 0xFFFFF297 State.reset).map (fun t => (t.readX 5#5, t.pc)) =
      some (0#32, 0x1004#32) := by decide +kernel

/-- JAL x1, +0xFFFFE. -/
theorem test_jal_1 :
    (ran 0x7FFFF0EF State.reset).map (fun t => (t.readX 1#5, t.pc)) =
      some (0x1004#32, 0x100FFE#32) := by decide +kernel

/-- JAL x0, -16. -/
theorem test_jal_2 :
    (ran 0xFF1FF06F State.reset).map (fun t => (t.pc, t.readX 0#5)) =
      some (0xFF0#32, 0#32) := by decide +kernel

/-- JALR x5, 0(x5). -/
theorem test_jalr_1 :
    (ran 0x000282E7 (State.reset.setX 5#5 0x2000#32)).map (fun t => (t.readX 5#5, t.pc)) =
      some (0x1004#32, 0x2000#32) := by decide +kernel

/-- JALR with funct3 = 3. -/
theorem test_jalr_2 :
    (ran 0x0042B0E7 (State.reset.setX 5#5 0x2000#32)).map (fun t => (t.readX 1#5, t.pc)) =
      some (0x1004#32, 0x2004#32) := by decide +kernel

/-- BEQ x5, x6, +16. -/
theorem test_beq_1 :
    (ran 0x00628863 ((State.reset.setX 5#5 0xFFFFFFFF#32).setX 6#5 1#32)).map (fun t => t.pc) =
      some 0x1004#32 := by decide +kernel

/-- BEQ x0, x0, -8. -/
theorem test_beq_2 :
    (ran 0xFE000CE3 State.reset).map (fun t => t.pc) =
      some 0xFF8#32 := by decide +kernel

/-- BNE x0, x0, -4096. -/
theorem test_bne_1 :
    (ran 0x80001063 State.reset).map (fun t => t.pc) =
      some 0x1004#32 := by decide +kernel

/-- BNE x5, x6, +16. -/
theorem test_bne_2 :
    (ran 0x00629863 ((State.reset.setX 5#5 0xFFFFFFFF#32).setX 6#5 1#32)).map (fun t => t.pc) =
      some 0x1010#32 := by decide +kernel

/-- BLT x5, x6, +8. -/
theorem test_blt_1 :
    (ran 0x0062C463 ((State.reset.setX 5#5 0x80000000#32).setX 6#5 0x7FFFFFFF#32)).map (fun t => t.pc) =
      some 0x1008#32 := by decide +kernel

/-- BLT x5, x6, +16. -/
theorem test_blt_2 :
    (ran 0x0062C863 ((State.reset.setX 5#5 0xFFFFFFFF#32).setX 6#5 1#32)).map (fun t => t.pc) =
      some 0x1010#32 := by decide +kernel

/-- BGE x5, x6, +16. -/
theorem test_bge_1 :
    (ran 0x0062D863 ((State.reset.setX 5#5 0xFFFFFFFF#32).setX 6#5 1#32)).map (fun t => t.pc) =
      some 0x1004#32 := by decide +kernel

/-- BGE x5, x6, +16. -/
theorem test_bge_2 :
    (ran 0x0062D863 ((State.reset.setX 5#5 7#32).setX 6#5 7#32)).map (fun t => t.pc) =
      some 0x1010#32 := by decide +kernel

/-- BLTU x5, x6, +16. -/
theorem test_bltu_1 :
    (ran 0x0062E863 ((State.reset.setX 5#5 0xFFFFFFFF#32).setX 6#5 1#32)).map (fun t => t.pc) =
      some 0x1004#32 := by decide +kernel

/-- BLTU x5, x6, +16. -/
theorem test_bltu_2 :
    (ran 0x0062E863 ((State.reset.setX 5#5 7#32).setX 6#5 7#32)).map (fun t => t.pc) =
      some 0x1004#32 := by decide +kernel

/-- BGEU x0, x0, +4094. -/
theorem test_bgeu_1 :
    (ran 0x7E007FE3 State.reset).map (fun t => t.pc) =
      some 0x1FFE#32 := by decide +kernel

/-- BGEU x5, x6, +16. -/
theorem test_bgeu_2 :
    (ran 0x0062F863 ((State.reset.setX 5#5 0xFFFFFFFF#32).setX 6#5 1#32)).map (fun t => t.pc) =
      some 0x1010#32 := by decide +kernel

/-- LB x7, 1(x5). -/
theorem test_lb_1 :
    (ran 0x00128383 ((((State.reset.setX 5#5 0x2000#32).putWord 0x2000#32 0x8081FF7F#32).putWord 0x2004#32 0x11223344#32).putWord 0x1FFC#32 0xCAFEBABE#32)).map (fun t => (t.readX 7#5, t.pc)) =
      some (0xFFFFFFFF#32, 0x1004#32) := by decide +kernel

/-- LB x7, -1(x0) (address 0xFFFFFFFF). -/
theorem test_lb_2 :
    (ran 0xFFF00383 (State.reset.setX 7#5 0x55#32)).map (fun t => (t.trapCause, t.trapPc, t.pc, t.readX 7#5)) =
      some (some .accessFaultLoad, 0x1000#32, 0x100#32, 0x55#32) := by decide +kernel

/-- LH x7, 2(x5). -/
theorem test_lh_1 :
    (ran 0x00229383 ((((State.reset.setX 5#5 0x2000#32).putWord 0x2000#32 0x8081FF7F#32).putWord 0x2004#32 0x11223344#32).putWord 0x1FFC#32 0xCAFEBABE#32)).map (fun t => (t.readX 7#5, t.pc)) =
      some (0xFFFF8081#32, 0x1004#32) := by decide +kernel

/-- LH x7, 3(x5) (misaligned, crosses word). -/
theorem test_lh_2 :
    (ran 0x00329383 ((((State.reset.setX 5#5 0x2000#32).putWord 0x2000#32 0x8081FF7F#32).putWord 0x2004#32 0x11223344#32).putWord 0x1FFC#32 0xCAFEBABE#32)).map (fun t => (t.readX 7#5, t.pc)) =
      some (0x4480#32, 0x1004#32) := by decide +kernel

/-- LW x7, 1(x5) (misaligned). -/
theorem test_lw_1 :
    (ran 0x0012A383 ((((State.reset.setX 5#5 0x2000#32).putWord 0x2000#32 0x8081FF7F#32).putWord 0x2004#32 0x11223344#32).putWord 0x1FFC#32 0xCAFEBABE#32)).map (fun t => (t.readX 7#5, t.pc)) =
      some (0x448081FF#32, 0x1004#32) := by decide +kernel

/-- LW x7, 0(x5) (partly outside). -/
theorem test_lw_2 :
    (ran 0x0002A383 ((State.reset.setX 5#5 0xFFFE#32).setX 7#5 0x55#32)).map (fun t => (t.trapCause, t.trapPc, t.pc, t.readX 7#5)) =
      some (some .accessFaultLoad, 0x1000#32, 0x100#32, 0x55#32) := by decide +kernel

/-- LBU x7, 1(x5). -/
theorem test_lbu :
    (ran 0x0012C383 ((((State.reset.setX 5#5 0x2000#32).putWord 0x2000#32 0x8081FF7F#32).putWord 0x2004#32 0x11223344#32).putWord 0x1FFC#32 0xCAFEBABE#32)).map (fun t => (t.readX 7#5, t.pc)) =
      some (0xFF#32, 0x1004#32) := by decide +kernel

/-- LHU x7, 2(x5). -/
theorem test_lhu :
    (ran 0x0022D383 ((((State.reset.setX 5#5 0x2000#32).putWord 0x2000#32 0x8081FF7F#32).putWord 0x2004#32 0x11223344#32).putWord 0x1FFC#32 0xCAFEBABE#32)).map (fun t => (t.readX 7#5, t.pc)) =
      some (0x8081#32, 0x1004#32) := by decide +kernel

/-- SB x6, 0(x5). -/
theorem test_sb_1 :
    (ran 0x00628023 (((State.reset.setX 5#5 0x2004#32).setX 6#5 0xA1B2C3D4#32).putWord 0x2004#32 0x11111111#32)).map (fun t => (t.loadBytes 0x2004#32 4, t.pc)) =
      some (0x111111D4#32, 0x1004#32) := by decide +kernel

/-- SB x6, 3(x5). -/
theorem test_sb_2 :
    (ran 0x006281A3 (((State.reset.setX 5#5 0x2004#32).setX 6#5 0xA1B2C3D4#32).putWord 0x2004#32 0x11111111#32)).map (fun t => (t.loadBytes 0x2004#32 4, t.pc)) =
      some (0xD4111111#32, 0x1004#32) := by decide +kernel

/-- SH x6, 0(x5). -/
theorem test_sh_1 :
    (ran 0x00629023 (((State.reset.setX 5#5 0x2004#32).setX 6#5 0xA1B2C3D4#32).putWord 0x2004#32 0x11111111#32)).map (fun t => (t.loadBytes 0x2004#32 4, t.pc)) =
      some (0x1111C3D4#32, 0x1004#32) := by decide +kernel

/-- SH x6, 2(x5). -/
theorem test_sh_2 :
    (ran 0x00629123 (((State.reset.setX 5#5 0x2004#32).setX 6#5 0xA1B2C3D4#32).putWord 0x2004#32 0x11111111#32)).map (fun t => (t.loadBytes 0x2004#32 4, t.pc)) =
      some (0xC3D41111#32, 0x1004#32) := by decide +kernel

/-- SW x6, -1(x5) (misaligned). -/
theorem test_sw_1 :
    (ran 0xFE62AFA3 ((((State.reset.setX 5#5 0x2004#32).setX 6#5 0xA1B2C3D4#32).putWord 0x2000#32 0#32).putWord 0x2004#32 0#32)).map (fun t => (t.loadBytes 0x2000#32 4, t.loadBytes 0x2004#32 4, t.pc)) =
      some (0xD4000000#32, 0xA1B2C3#32, 0x1004#32) := by decide +kernel

/-- SW x6, 0(x5) (partly outside, nothing written). -/
theorem test_sw_2 :
    (ran 0x0062A023 ((State.reset.setX 5#5 0xFFFE#32).setX 6#5 0xA1B2C3D4#32)).map (fun t => (t.trapCause, t.trapPc, t.pc)) =
      some (some .accessFaultStore, 0x1000#32, 0x100#32) := by decide +kernel

/-- ADDI x5, x5, -2048. -/
theorem test_addi_1 :
    (ran 0x80028293 (State.reset.setX 5#5 0x800#32)).map (fun t => (t.readX 5#5, t.pc)) =
      some (0#32, 0x1004#32) := by decide +kernel

/-- ADDI x5, x6, 2047. -/
theorem test_addi_2 :
    (ran 0x7FF30293 (State.reset.setX 6#5 0xFFFFFFFF#32)).map (fun t => (t.readX 5#5, t.pc)) =
      some (0x7FE#32, 0x1004#32) := by decide +kernel

/-- SLTI x5, x6, -1. -/
theorem test_slti_1 :
    (ran 0xFFF32293 (State.reset.setX 6#5 0x80000000#32)).map (fun t => (t.readX 5#5, t.pc)) =
      some (1#32, 0x1004#32) := by decide +kernel

/-- SLTI x5, x6, 0. -/
theorem test_slti_2 :
    (ran 0x00032293 (State.reset.setX 6#5 0#32)).map (fun t => (t.readX 5#5, t.pc)) =
      some (0#32, 0x1004#32) := by decide +kernel

/-- SLTIU x5, x6, -1. -/
theorem test_sltiu_1 :
    (ran 0xFFF33293 (State.reset.setX 6#5 0x80000000#32)).map (fun t => (t.readX 5#5, t.pc)) =
      some (1#32, 0x1004#32) := by decide +kernel

/-- SLTIU x5, x6, 1 (SEQZ). -/
theorem test_sltiu_2 :
    (ran 0x00133293 (State.reset.setX 6#5 0#32)).map (fun t => (t.readX 5#5, t.pc)) =
      some (1#32, 0x1004#32) := by decide +kernel

/-- XORI x5, x6, -1 (NOT). -/
theorem test_xori :
    (ran 0xFFF34293 (State.reset.setX 6#5 0x12345678#32)).map (fun t => (t.readX 5#5, t.pc)) =
      some (0xEDCBA987#32, 0x1004#32) := by decide +kernel

/-- ORI x5, x6, -2048. -/
theorem test_ori :
    (ran 0x80036293 (State.reset.setX 6#5 0x123#32)).map (fun t => (t.readX 5#5, t.pc)) =
      some (0xFFFFF923#32, 0x1004#32) := by decide +kernel

/-- ANDI x5, x6, 0x7FF. -/
theorem test_andi_1 :
    (ran 0x7FF37293 (State.reset.setX 6#5 0xFFFFFFFF#32)).map (fun t => (t.readX 5#5, t.pc)) =
      some (0x7FF#32, 0x1004#32) := by decide +kernel

/-- ANDI x5, x6, -16. -/
theorem test_andi_2 :
    (ran 0xFF037293 (State.reset.setX 6#5 0x12345678#32)).map (fun t => (t.readX 5#5, t.pc)) =
      some (0x12345670#32, 0x1004#32) := by decide +kernel

/-- SLLI x5, x6, 0. -/
theorem test_slli_1 :
    (ran 0x00031293 (State.reset.setX 6#5 0x80000001#32)).map (fun t => (t.readX 5#5, t.pc)) =
      some (0x80000001#32, 0x1004#32) := by decide +kernel

/-- SLLI x5, x6, 1. -/
theorem test_slli_2 :
    (ran 0x00131293 (State.reset.setX 6#5 0x80000001#32)).map (fun t => (t.readX 5#5, t.pc)) =
      some (2#32, 0x1004#32) := by decide +kernel

/-- SRLI x5, x6, 1. -/
theorem test_srli_1 :
    (ran 0x00135293 (State.reset.setX 6#5 0x80000001#32)).map (fun t => (t.readX 5#5, t.pc)) =
      some (0x40000000#32, 0x1004#32) := by decide +kernel

/-- SRLI x5, x6, 31. -/
theorem test_srli_2 :
    (ran 0x01F35293 (State.reset.setX 6#5 0x80000001#32)).map (fun t => (t.readX 5#5, t.pc)) =
      some (1#32, 0x1004#32) := by decide +kernel

/-- SRAI x5, x6, 1. -/
theorem test_srai_1 :
    (ran 0x40135293 (State.reset.setX 6#5 0x80000001#32)).map (fun t => (t.readX 5#5, t.pc)) =
      some (0xC0000000#32, 0x1004#32) := by decide +kernel

/-- SRAI x5, x6, 31. -/
theorem test_srai_2 :
    (ran 0x41F35293 (State.reset.setX 6#5 0x80000001#32)).map (fun t => (t.readX 5#5, t.pc)) =
      some (0xFFFFFFFF#32, 0x1004#32) := by decide +kernel

/-- ADD x7, x5, x6. -/
theorem test_add_1 :
    (ran 0x006283B3 ((State.reset.setX 5#5 0x7FFFFFFF#32).setX 6#5 0x7FFFFFFF#32)).map (fun t => (t.readX 7#5, t.pc)) =
      some (0xFFFFFFFE#32, 0x1004#32) := by decide +kernel

/-- ADD x0, x5, x6. -/
theorem test_add_2 :
    (ran 0x00628033 ((State.reset.setX 5#5 1#32).setX 6#5 2#32)).map (fun t => (t.pc, t.readX 0#5)) =
      some (0x1004#32, 0#32) := by decide +kernel

/-- SUB x7, x5, x6. -/
theorem test_sub_1 :
    (ran 0x406283B3 ((State.reset.setX 5#5 0x80000000#32).setX 6#5 1#32)).map (fun t => (t.readX 7#5, t.pc)) =
      some (0x7FFFFFFF#32, 0x1004#32) := by decide +kernel

/-- SUB x5, x5, x5. -/
theorem test_sub_2 :
    (ran 0x405282B3 (State.reset.setX 5#5 0x1234#32)).map (fun t => (t.readX 5#5, t.pc)) =
      some (0#32, 0x1004#32) := by decide +kernel

/-- SLL x7, x5, x6. -/
theorem test_sll_1 :
    (ran 0x006293B3 ((State.reset.setX 5#5 1#32).setX 6#5 0x20#32)).map (fun t => (t.readX 7#5, t.pc)) =
      some (1#32, 0x1004#32) := by decide +kernel

/-- SLL x7, x5, x6. -/
theorem test_sll_2 :
    (ran 0x006293B3 ((State.reset.setX 5#5 1#32).setX 6#5 0x21#32)).map (fun t => (t.readX 7#5, t.pc)) =
      some (2#32, 0x1004#32) := by decide +kernel

/-- SLT x7, x5, x6. -/
theorem test_slt :
    (ran 0x0062A3B3 ((State.reset.setX 5#5 0x80000000#32).setX 6#5 0x7FFFFFFF#32)).map (fun t => (t.readX 7#5, t.pc)) =
      some (1#32, 0x1004#32) := by decide +kernel

/-- SLTU x7, x5, x6. -/
theorem test_sltu_1 :
    (ran 0x0062B3B3 ((State.reset.setX 5#5 0x80000000#32).setX 6#5 0x7FFFFFFF#32)).map (fun t => (t.readX 7#5, t.pc)) =
      some (0#32, 0x1004#32) := by decide +kernel

/-- SLTU x7, x0, x6 (SNEZ). -/
theorem test_sltu_2 :
    (ran 0x006033B3 (State.reset.setX 6#5 5#32)).map (fun t => (t.readX 7#5, t.pc)) =
      some (1#32, 0x1004#32) := by decide +kernel

/-- XOR x7, x5, x6. -/
theorem test_xor :
    (ran 0x0062C3B3 ((State.reset.setX 5#5 0xFF00FF00#32).setX 6#5 0xFF00FF0#32)).map (fun t => (t.readX 7#5, t.pc)) =
      some (0xF0F0F0F0#32, 0x1004#32) := by decide +kernel

/-- SRL x7, x5, x6. -/
theorem test_srl :
    (ran 0x0062D3B3 ((State.reset.setX 5#5 0x80000000#32).setX 6#5 0xFFFFFFFF#32)).map (fun t => (t.readX 7#5, t.pc)) =
      some (1#32, 0x1004#32) := by decide +kernel

/-- SRA x7, x5, x6. -/
theorem test_sra :
    (ran 0x4062D3B3 ((State.reset.setX 5#5 0x80000000#32).setX 6#5 0xFFFFFFE4#32)).map (fun t => (t.readX 7#5, t.pc)) =
      some (0xF8000000#32, 0x1004#32) := by decide +kernel

/-- OR x7, x5, x6. -/
theorem test_or :
    (ran 0x0062E3B3 ((State.reset.setX 5#5 0xFF00FF00#32).setX 6#5 0xFF00FF0#32)).map (fun t => (t.readX 7#5, t.pc)) =
      some (0xFFF0FFF0#32, 0x1004#32) := by decide +kernel

/-- AND x7, x5, x6. -/
theorem test_and :
    (ran 0x0062F3B3 ((State.reset.setX 5#5 0xFF00FF00#32).setX 6#5 0xFF00FF0#32)).map (fun t => (t.readX 7#5, t.pc)) =
      some (0xF000F00#32, 0x1004#32) := by decide +kernel

/-- FENCE.I (executes as the no-op). -/
theorem test_fence_1 :
    (ran 0x0000100F State.reset).map (fun t => t.pc) =
      some 0x1004#32 := by decide +kernel

/-- MISC-MEM word, all other bits 1 (no-op). -/
theorem test_fence_2 :
    (ran 0xFFFFFF8F (State.reset.setX 31#5 7#32)).map (fun t => t.pc) =
      some 0x1004#32 := by decide +kernel

/-- ECALL. -/
theorem test_ecall_1 :
    (ran 0x00000073 State.reset).map (fun t => (t.trapCause, t.trapPc, t.pc)) =
      some (some .ecall, 0x1000#32, 0x100#32) := by decide +kernel

/-- ECALL. -/
theorem test_ecall_2 :
    (ran 0x00000073 (State.reset.ecallHalts)).map (fun t => (t.halt, t.pc)) =
      some (some .ecall, 0x1000#32) := by decide +kernel

/-- EBREAK. -/
theorem test_ebreak_1 :
    (ran 0x00100073 State.reset).map (fun t => (t.trapCause, t.trapPc, t.pc)) =
      some (some .ebreak, 0x1000#32, 0x100#32) := by decide +kernel

/-- EBREAK. -/
theorem test_ebreak_2 :
    (ran 0x00100073 ((State.reset.ecallHalts).reservedHalts)).map (fun t => (t.trapCause, t.trapPc, t.pc)) =
      some (some .ebreak, 0x1000#32, 0x100#32) := by decide +kernel

/-- MUL x7, x5, x6. -/
theorem test_mul_1 :
    (ran 0x026283B3 (((State.reset.setX 5#5 7#32).setX 6#5 0xFFFFFFFE#32).setX 7#5 0x55555555#32)).map (fun t => (t.readX 7#5, t.pc)) =
      some (0xFFFFFFF2#32, 0x1004#32) := by decide +kernel

/-- MUL x7, x5, x6. -/
theorem test_mul_2 :
    (ran 0x026283B3 (((State.reset.setX 5#5 0x80000000#32).setX 6#5 0x80000000#32).setX 7#5 0x55555555#32)).map (fun t => (t.readX 7#5, t.pc)) =
      some (0#32, 0x1004#32) := by decide +kernel

/-- MULH x7, x5, x6. -/
theorem test_mulh_1 :
    (ran 0x026293B3 (((State.reset.setX 5#5 0xFFFFFFF9#32).setX 6#5 2#32).setX 7#5 0x55555555#32)).map (fun t => (t.readX 7#5, t.pc)) =
      some (0xFFFFFFFF#32, 0x1004#32) := by decide +kernel

/-- MULH x7, x5, x6. -/
theorem test_mulh_2 :
    (ran 0x026293B3 (((State.reset.setX 5#5 0x80000000#32).setX 6#5 0x80000000#32).setX 7#5 0x55555555#32)).map (fun t => (t.readX 7#5, t.pc)) =
      some (0x40000000#32, 0x1004#32) := by decide +kernel

/-- MULHSU x7, x5, x6. -/
theorem test_mulhsu_1 :
    (ran 0x0262A3B3 (((State.reset.setX 5#5 0xFFFFFFFF#32).setX 6#5 0xFFFFFFFF#32).setX 7#5 0x55555555#32)).map (fun t => (t.readX 7#5, t.pc)) =
      some (0xFFFFFFFF#32, 0x1004#32) := by decide +kernel

/-- MULHSU x7, x5, x6. -/
theorem test_mulhsu_2 :
    (ran 0x0262A3B3 (((State.reset.setX 5#5 0xFFFFFFF9#32).setX 6#5 2#32).setX 7#5 0x55555555#32)).map (fun t => (t.readX 7#5, t.pc)) =
      some (0xFFFFFFFF#32, 0x1004#32) := by decide +kernel

/-- MULHU x7, x5, x6. -/
theorem test_mulhu_1 :
    (ran 0x0262B3B3 (((State.reset.setX 5#5 0xFFFFFFFF#32).setX 6#5 0xFFFFFFFF#32).setX 7#5 0x55555555#32)).map (fun t => (t.readX 7#5, t.pc)) =
      some (0xFFFFFFFE#32, 0x1004#32) := by decide +kernel

/-- MULHU x7, x5, x6. -/
theorem test_mulhu_2 :
    (ran 0x0262B3B3 (((State.reset.setX 5#5 0x80000000#32).setX 6#5 0xFFFFFFFF#32).setX 7#5 0x55555555#32)).map (fun t => (t.readX 7#5, t.pc)) =
      some (0x7FFFFFFF#32, 0x1004#32) := by decide +kernel

/-- DIV x7, x5, x6. -/
theorem test_div_1 :
    (ran 0x0262C3B3 (((State.reset.setX 5#5 0x80000000#32).setX 6#5 0xFFFFFFFF#32).setX 7#5 0x55555555#32)).map (fun t => (t.readX 7#5, t.pc)) =
      some (0x80000000#32, 0x1004#32) := by decide +kernel

/-- DIV x7, x5, x6. -/
theorem test_div_2 :
    (ran 0x0262C3B3 (((State.reset.setX 5#5 0xFFFFFFF9#32).setX 6#5 2#32).setX 7#5 0x55555555#32)).map (fun t => (t.readX 7#5, t.pc)) =
      some (0xFFFFFFFD#32, 0x1004#32) := by decide +kernel

/-- DIVU x7, x5, x6. -/
theorem test_divu_1 :
    (ran 0x0262D3B3 (((State.reset.setX 5#5 0x12345678#32).setX 6#5 0#32).setX 7#5 0x55555555#32)).map (fun t => (t.readX 7#5, t.pc)) =
      some (0xFFFFFFFF#32, 0x1004#32) := by decide +kernel

/-- DIVU x7, x5, x6. -/
theorem test_divu_2 :
    (ran 0x0262D3B3 (((State.reset.setX 5#5 0xFFFFFFF9#32).setX 6#5 2#32).setX 7#5 0x55555555#32)).map (fun t => (t.readX 7#5, t.pc)) =
      some (0x7FFFFFFC#32, 0x1004#32) := by decide +kernel

/-- REM x7, x5, x6. -/
theorem test_rem_1 :
    (ran 0x0262E3B3 (((State.reset.setX 5#5 0xFFFFFFF9#32).setX 6#5 2#32).setX 7#5 0x55555555#32)).map (fun t => (t.readX 7#5, t.pc)) =
      some (0xFFFFFFFF#32, 0x1004#32) := by decide +kernel

/-- REM x7, x5, x6. -/
theorem test_rem_2 :
    (ran 0x0262E3B3 (((State.reset.setX 5#5 0x80000000#32).setX 6#5 0xFFFFFFFF#32).setX 7#5 0x55555555#32)).map (fun t => (t.readX 7#5, t.pc)) =
      some (0#32, 0x1004#32) := by decide +kernel

/-- REMU x7, x5, x6. -/
theorem test_remu_1 :
    (ran 0x0262F3B3 (((State.reset.setX 5#5 0x12345678#32).setX 6#5 0#32).setX 7#5 0x55555555#32)).map (fun t => (t.readX 7#5, t.pc)) =
      some (0x12345678#32, 0x1004#32) := by decide +kernel

/-- REMU x7, x5, x6. -/
theorem test_remu_2 :
    (ran 0x0262F3B3 (((State.reset.setX 5#5 7#32).setX 6#5 0xFFFFFFFE#32).setX 7#5 0x55555555#32)).map (fun t => (t.readX 7#5, t.pc)) =
      some (7#32, 0x1004#32) := by decide +kernel

/-- CSRRW x5, fcsr, x5 (swap). -/
theorem test_csrrw_1 :
    (ran 0x003292F3 ((State.reset.setX 5#5 0x41#32).csrWrite .fcsr 0xA3#32)).map (fun t => (t.readX 5#5, t.fcsr, t.pc)) =
      some (0xA3#32, 0x41#32, 0x1004#32) := by decide +kernel

/-- CSRRW x7, mstatus, x5 (IllegalCSR, not halted). -/
theorem test_csrrw_2 :
    (ran 0x300293F3 (((State.reset.setX 5#5 8#32).setX 7#5 0x55#32).reservedHalts)).map (fun t => (t.trapCause, t.trapPc, t.pc, t.readX 7#5)) =
      some (some .illegalCsr, 0x1000#32, 0x100#32, 0x55#32) := by decide +kernel

/-- CSRRS x7, fflags, x5. -/
theorem test_csrrs_1 :
    (ran 0x0012A3F3 ((State.reset.setX 5#5 0xFFFFFFF0#32).csrWrite .fcsr 1#32)).map (fun t => (t.readX 7#5, t.fcsr, t.pc)) =
      some (1#32, 0x11#32, 0x1004#32) := by decide +kernel

/-- CSRRS x7, cycle, x0 (RDCYCLE: IllegalCSR). -/
theorem test_csrrs_2 :
    (ran 0xC00023F3 (State.reset.setX 7#5 0x55#32)).map (fun t => (t.trapCause, t.trapPc, t.pc, t.readX 7#5)) =
      some (some .illegalCsr, 0x1000#32, 0x100#32, 0x55#32) := by decide +kernel

/-- CSRRC x7, frm, x5. -/
theorem test_csrrc :
    (ran 0x0022B3F3 ((State.reset.setX 5#5 5#32).csrWrite .fcsr 0xFF#32)).map (fun t => (t.readX 7#5, t.fcsr, t.pc)) =
      some (7#32, 0x5F#32, 0x1004#32) := by decide +kernel

/-- CSRRWI x0, frm, 31. -/
theorem test_csrrwi_1 :
    (ran 0x002FD073 State.reset).map (fun t => (t.fcsr, t.pc, t.readX 0#5)) =
      some (0xE0#32, 0x1004#32, 0#32) := by decide +kernel

/-- CSRRWI x7, frm, 4. -/
theorem test_csrrwi_2 :
    (ran 0x002253F3 (State.reset.csrWrite .fcsr 0x1F#32)).map (fun t => (t.readX 7#5, t.fcsr, t.pc)) =
      some (0#32, 0x9F#32, 0x1004#32) := by decide +kernel

/-- CSRRSI x7, fflags, 0x11. -/
theorem test_csrrsi :
    (ran 0x0018E3F3 (State.reset.csrWrite .fcsr 4#32)).map (fun t => (t.readX 7#5, t.fcsr, t.pc)) =
      some (4#32, 0x15#32, 0x1004#32) := by decide +kernel

/-- CSRRCI x7, fcsr, 0. -/
theorem test_csrrci_1 :
    (ran 0x003073F3 (State.reset.csrWrite .fcsr 0xAA#32)).map (fun t => (t.readX 7#5, t.pc)) =
      some (0xAA#32, 0x1004#32) := by decide +kernel

/-- CSRRCI x7, fflags, 0x1F. -/
theorem test_csrrci_2 :
    (ran 0x001FF3F3 (State.reset.csrWrite .fcsr 0xFF#32)).map (fun t => (t.readX 7#5, t.fcsr, t.pc)) =
      some (0x1F#32, 0xE0#32, 0x1004#32) := by decide +kernel

/-- FLW f7, -4(x5). -/
theorem test_flw_1 :
    (ran 0xFFC2A387 ((State.reset.setX 5#5 0x2004#32).putWord 0x2000#32 0x3FC00000#32)).map (fun t => (t.readF 7#5, t.pc)) =
      some (0xFFFFFFFF3FC00000#64, 0x1004#32) := by decide +kernel

/-- FLW f7, 0(x5) (fault). -/
theorem test_flw_2 :
    (ran 0x0002A387 ((State.reset.setX 5#5 0x10000#32).setF 7#5 0xFFFFFFFF3F800000#64)).map (fun t => (t.trapCause, t.trapPc, t.pc)) =
      some (some .accessFaultLoad, 0x1000#32, 0x100#32) := by decide +kernel

/-- FSW f6, 8(x5). -/
theorem test_fsw_1 :
    (ran 0x0062A427 (((State.reset.setX 5#5 0x2000#32).setF 6#5 0xFFFFFFFFBFC00000#64).putWord 0x2008#32 0#32)).map (fun t => (t.loadBytes 0x2008#32 4, t.pc)) =
      some (0xBFC00000#32, 0x1004#32) := by decide +kernel

/-- FSW f6, 0(x5) (fault). -/
theorem test_fsw_2 :
    (ran 0x0062A027 ((State.reset.setX 5#5 0xFFFFFFFE#32).setF 6#5 0xFFFFFFFFBFC00000#64)).map (fun t => (t.trapCause, t.trapPc, t.pc)) =
      some (some .accessFaultStore, 0x1000#32, 0x100#32) := by decide +kernel

/-- FMADD.S f7, f5, f6, f4, rne (single rounding). -/
theorem test_fmaddS_1 :
    (ran 0x206283C3 (((State.reset.setF 5#5 0xFFFFFFFF3F800001#64).setF 6#5 0xFFFFFFFF3F800001#64).setF 4#5 0xFFFFFFFFBF800002#64)).map (fun t => (t.readF 7#5, t.pc)) =
      some (0xFFFFFFFF28800000#64, 0x1004#32) := by decide +kernel

/-- FMADD.S f7, f5, f6, f4, rdn (exact cancellation). -/
theorem test_fmaddS_2 :
    (ran 0x2062A3C3 (((State.reset.setF 5#5 0xFFFFFFFF40000000#64).setF 6#5 0xFFFFFFFF40400000#64).setF 4#5 0xFFFFFFFFC0C00000#64)).map (fun t => (t.readF 7#5, t.pc)) =
      some (0xFFFFFFFF80000000#64, 0x1004#32) := by decide +kernel

/-- FMSUB.S f7, f5, f6, f4, rne. -/
theorem test_fmsubS :
    (ran 0x206283C7 (((State.reset.setF 5#5 0xFFFFFFFF40000000#64).setF 6#5 0xFFFFFFFF40400000#64).setF 4#5 0xFFFFFFFF3F800000#64)).map (fun t => (t.readF 7#5, t.pc)) =
      some (0xFFFFFFFF40A00000#64, 0x1004#32) := by decide +kernel

/-- FNMSUB.S f7, f5, f6, f4, rne. -/
theorem test_fnmsubS_1 :
    (ran 0x206283CB (((State.reset.setF 5#5 0xFFFFFFFF40000000#64).setF 6#5 0xFFFFFFFF40400000#64).setF 4#5 0xFFFFFFFF3F800000#64)).map (fun t => (t.readF 7#5, t.pc)) =
      some (0xFFFFFFFFC0A00000#64, 0x1004#32) := by decide +kernel

/-- FNMSUB.S 0 * 1 , +0. -/
theorem test_fnmsubS_2 :
    (ran 0x206283CB (((State.reset.setF 5#5 0xFFFFFFFF00000000#64).setF 6#5 0xFFFFFFFF3F800000#64).setF 4#5 0xFFFFFFFF00000000#64)).map (fun t => (t.readF 7#5, t.pc)) =
      some (0xFFFFFFFF00000000#64, 0x1004#32) := by decide +kernel

/-- FNMADD.S f7, f5, f6, f4, rne. -/
theorem test_fnmaddS_1 :
    (ran 0x206283CF (((State.reset.setF 5#5 0xFFFFFFFF40000000#64).setF 6#5 0xFFFFFFFF40400000#64).setF 4#5 0xFFFFFFFF3F800000#64)).map (fun t => (t.readF 7#5, t.pc)) =
      some (0xFFFFFFFFC0E00000#64, 0x1004#32) := by decide +kernel

/-- FNMADD.S 0 * 1 , +0 (gives -0). -/
theorem test_fnmaddS_2 :
    (ran 0x206283CF (((State.reset.setF 5#5 0xFFFFFFFF00000000#64).setF 6#5 0xFFFFFFFF3F800000#64).setF 4#5 0xFFFFFFFF00000000#64)).map (fun t => (t.readF 7#5, t.pc)) =
      some (0xFFFFFFFF80000000#64, 0x1004#32) := by decide +kernel

/-- FADD.S f7, f5, f6, dyn  (FRM = 3). -/
theorem test_faddS_1 :
    (ran 0x0062F3D3 (((State.reset.setF 5#5 0xFFFFFFFF3F800000#64).setF 6#5 0xFFFFFFFF33800000#64).csrWrite .fcsr 0x60#32)).map (fun t => (t.readF 7#5, t.fcsr, t.pc)) =
      some (0xFFFFFFFF3F800001#64, 0x61#32, 0x1004#32) := by decide +kernel

/-- FADD.S max + max (rtz). -/
theorem test_faddS_2 :
    (ran 0x006293D3 ((State.reset.setF 5#5 0xFFFFFFFF7F7FFFFF#64).setF 6#5 0xFFFFFFFF7F7FFFFF#64)).map (fun t => (t.readF 7#5, t.fcsr, t.pc)) =
      some (0xFFFFFFFF7F7FFFFF#64, 5#32, 0x1004#32) := by decide +kernel

/-- FSUB.S x - x (rdn). -/
theorem test_fsubS_1 :
    (ran 0x0862A3D3 ((State.reset.setF 5#5 0xFFFFFFFF40400000#64).setF 6#5 0xFFFFFFFF40400000#64)).map (fun t => (t.readF 7#5, t.pc)) =
      some (0xFFFFFFFF80000000#64, 0x1004#32) := by decide +kernel

/-- FSUB.S inf - inf. -/
theorem test_fsubS_2 :
    (ran 0x086283D3 ((State.reset.setF 5#5 0xFFFFFFFF7F800000#64).setF 6#5 0xFFFFFFFF7F800000#64)).map (fun t => (t.readF 7#5, t.fcsr, t.pc)) =
      some (0xFFFFFFFF7FC00000#64, 0x10#32, 0x1004#32) := by decide +kernel

/-- FMUL.S min subnormal * 0.5 (underflow to 0). -/
theorem test_fmulS_1 :
    (ran 0x106283D3 ((State.reset.setF 5#5 0xFFFFFFFF00000001#64).setF 6#5 0xFFFFFFFF3F000000#64)).map (fun t => (t.readF 7#5, t.fcsr, t.pc)) =
      some (0xFFFFFFFF00000000#64, 3#32, 0x1004#32) := by decide +kernel

/-- FMUL.S 0x007FFFFF * 0x3F800001 (tiny after rounding?). -/
theorem test_fmulS_2 :
    (ran 0x106283D3 ((State.reset.setF 5#5 0xFFFFFFFF007FFFFF#64).setF 6#5 0xFFFFFFFF3F800001#64)).map (fun t => (t.readF 7#5, t.fcsr, t.pc)) =
      some (0xFFFFFFFF00800000#64, 1#32, 0x1004#32) := by decide +kernel

/-- FDIV.S 1 / 3 (rne). -/
theorem test_fdivS_1 :
    (ran 0x186283D3 ((State.reset.setF 5#5 0xFFFFFFFF3F800000#64).setF 6#5 0xFFFFFFFF40400000#64)).map (fun t => (t.readF 7#5, t.fcsr, t.pc)) =
      some (0xFFFFFFFF3EAAAAAB#64, 1#32, 0x1004#32) := by decide +kernel

/-- FDIV.S -1 / 0. -/
theorem test_fdivS_2 :
    (ran 0x186283D3 ((State.reset.setF 5#5 0xFFFFFFFFBF800000#64).setF 6#5 0xFFFFFFFF00000000#64)).map (fun t => (t.readF 7#5, t.fcsr, t.pc)) =
      some (0xFFFFFFFFFF800000#64, 8#32, 0x1004#32) := by decide +kernel

/-- FSQRT.S 2 (rne). -/
theorem test_fsqrtS_1 :
    (ran 0x580283D3 (State.reset.setF 5#5 0xFFFFFFFF40000000#64)).map (fun t => (t.readF 7#5, t.fcsr, t.pc)) =
      some (0xFFFFFFFF3FB504F3#64, 1#32, 0x1004#32) := by decide +kernel

/-- FSQRT.S -1. -/
theorem test_fsqrtS_2 :
    (ran 0x580283D3 (State.reset.setF 5#5 0xFFFFFFFFBF800000#64)).map (fun t => (t.readF 7#5, t.fcsr, t.pc)) =
      some (0xFFFFFFFF7FC00000#64, 0x10#32, 0x1004#32) := by decide +kernel

/-- FSGNJ.S f7, f5, f6. -/
theorem test_fsgnjS_1 :
    (ran 0x206283D3 ((State.reset.setF 5#5 0xFFFFFFFFBFC00000#64).setF 6#5 0xFFFFFFFF40000000#64)).map (fun t => (t.readF 7#5, t.pc)) =
      some (0xFFFFFFFF3FC00000#64, 0x1004#32) := by decide +kernel

/-- FSGNJ.S f7, f5, f6 (sign from a NaN). -/
theorem test_fsgnjS_2 :
    (ran 0x206283D3 ((State.reset.setF 5#5 0xFFFFFFFF3F800000#64).setF 6#5 0xFFFFFFFFFFC00000#64)).map (fun t => (t.readF 7#5, t.pc)) =
      some (0xFFFFFFFFBF800000#64, 0x1004#32) := by decide +kernel

/-- FSGNJN.S f7, f5, f6. -/
theorem test_fsgnjnS_1 :
    (ran 0x206293D3 (((State.reset.setF 5#5 0xFFFFFFFFBFC00000#64).setF 6#5 0xFFFFFFFF40000000#64).setF 7#5 0xFFFFFFFF00000001#64)).map (fun t => (t.readF 7#5, t.pc)) =
      some (0xFFFFFFFFBFC00000#64, 0x1004#32) := by decide +kernel

/-- FSGNJN.S f7, f5, f5 (FNEG.S). -/
theorem test_fsgnjnS_2 :
    (ran 0x205293D3 (State.reset.setF 5#5 0xFFFFFFFF7FA00001#64)).map (fun t => (t.readF 7#5, t.pc)) =
      some (0xFFFFFFFFFFA00001#64, 0x1004#32) := by decide +kernel

/-- FSGNJX.S f7, f5, f6. -/
theorem test_fsgnjxS_1 :
    (ran 0x2062A3D3 (((State.reset.setF 5#5 0xFFFFFFFFBFC00000#64).setF 6#5 0xFFFFFFFF40000000#64).setF 7#5 0xFFFFFFFF00000001#64)).map (fun t => (t.readF 7#5, t.pc)) =
      some (0xFFFFFFFFBFC00000#64, 0x1004#32) := by decide +kernel

/-- FSGNJX.S f7, f5, f5 (FABS.S). -/
theorem test_fsgnjxS_2 :
    (ran 0x2052A3D3 (State.reset.setF 5#5 0xFFFFFFFFFF800000#64)).map (fun t => (t.readF 7#5, t.pc)) =
      some (0xFFFFFFFF7F800000#64, 0x1004#32) := by decide +kernel

/-- FMIN.S +0, -0. -/
theorem test_fminS_1 :
    (ran 0x286283D3 ((State.reset.setF 5#5 0xFFFFFFFF00000000#64).setF 6#5 0xFFFFFFFF80000000#64)).map (fun t => (t.readF 7#5, t.pc)) =
      some (0xFFFFFFFF80000000#64, 0x1004#32) := by decide +kernel

/-- FMIN.S sNaN, qNaN. -/
theorem test_fminS_2 :
    (ran 0x286283D3 ((State.reset.setF 5#5 0xFFFFFFFF7FA00000#64).setF 6#5 0xFFFFFFFF7FC00000#64)).map (fun t => (t.readF 7#5, t.fcsr, t.pc)) =
      some (0xFFFFFFFF7FC00000#64, 0x10#32, 0x1004#32) := by decide +kernel

/-- FMAX.S +0, -0. -/
theorem test_fmaxS_1 :
    (ran 0x286293D3 (((State.reset.setF 5#5 0xFFFFFFFF00000000#64).setF 6#5 0xFFFFFFFF80000000#64).setF 7#5 0xFFFFFFFF00000001#64)).map (fun t => (t.readF 7#5, t.pc)) =
      some (0xFFFFFFFF00000000#64, 0x1004#32) := by decide +kernel

/-- FMAX.S 1, sNaN. -/
theorem test_fmaxS_2 :
    (ran 0x286293D3 ((State.reset.setF 5#5 0xFFFFFFFF3F800000#64).setF 6#5 0xFFFFFFFF7FA00000#64)).map (fun t => (t.readF 7#5, t.fcsr, t.pc)) =
      some (0xFFFFFFFF3F800000#64, 0x10#32, 0x1004#32) := by decide +kernel

/-- FCVT.W.S x7, f5, rmm  (-0.5). -/
theorem test_fcvtWS_1 :
    (ran 0xC002C3D3 ((State.reset.setX 7#5 0x55#32).setF 5#5 0xFFFFFFFFBF000000#64)).map (fun t => (t.readX 7#5, t.fcsr, t.pc)) =
      some (0xFFFFFFFF#32, 1#32, 0x1004#32) := by decide +kernel

/-- FCVT.W.S -2^31 - 256 (saturates). -/
theorem test_fcvtWS_2 :
    (ran 0xC00293D3 (State.reset.setF 5#5 0xFFFFFFFFCF000001#64)).map (fun t => (t.readX 7#5, t.fcsr, t.pc)) =
      some (0x80000000#32, 0x10#32, 0x1004#32) := by decide +kernel

/-- FCVT.WU.S -0.5 rdn (rounds to -1: invalid). -/
theorem test_fcvtWuS_1 :
    (ran 0xC012A3D3 ((State.reset.setX 7#5 0x55#32).setF 5#5 0xFFFFFFFFBF000000#64)).map (fun t => (t.readX 7#5, t.fcsr, t.pc)) =
      some (0#32, 0x10#32, 0x1004#32) := by decide +kernel

/-- FCVT.WU.S 4294967040 (largest float below 2^32). -/
theorem test_fcvtWuS_2 :
    (ran 0xC01283D3 (State.reset.setF 5#5 0xFFFFFFFF4F7FFFFF#64)).map (fun t => (t.readX 7#5, t.pc)) =
      some (0xFFFFFF00#32, 0x1004#32) := by decide +kernel

/-- FMV.X.W x7, f5. -/
theorem test_fmvXW_1 :
    (ran 0xE00283D3 (State.reset.setF 5#5 0xFFFFFFFF7FA00001#64)).map (fun t => (t.readX 7#5, t.pc)) =
      some (0x7FA00001#32, 0x1004#32) := by decide +kernel

/-- FMV.X.W x0, f5. -/
theorem test_fmvXW_2 :
    (ran 0xE0028053 (State.reset.setF 5#5 0xFFFFFFFFBFC00000#64)).map (fun t => (t.pc, t.readX 0#5)) =
      some (0x1004#32, 0#32) := by decide +kernel

/-- FEQ.S x7, f5, f6  (qNaN, 1). -/
theorem test_feqS_1 :
    (ran 0xA062A3D3 (((State.reset.setX 7#5 0x55#32).setF 5#5 0xFFFFFFFF7FC00000#64).setF 6#5 0xFFFFFFFF3F800000#64)).map (fun t => (t.readX 7#5, t.pc)) =
      some (0#32, 0x1004#32) := by decide +kernel

/-- FEQ.S x7, f5, f6  (1, sNaN). -/
theorem test_feqS_2 :
    (ran 0xA062A3D3 (((State.reset.setX 7#5 0x55#32).setF 5#5 0xFFFFFFFF3F800000#64).setF 6#5 0xFFFFFFFF7FA00000#64)).map (fun t => (t.readX 7#5, t.fcsr, t.pc)) =
      some (0#32, 0x10#32, 0x1004#32) := by decide +kernel

/-- FLT.S x7, f5, f6  (-0, +0). -/
theorem test_fltS_1 :
    (ran 0xA06293D3 (((State.reset.setX 7#5 0x55#32).setF 5#5 0xFFFFFFFF80000000#64).setF 6#5 0xFFFFFFFF00000000#64)).map (fun t => (t.readX 7#5, t.pc)) =
      some (0#32, 0x1004#32) := by decide +kernel

/-- FLT.S x7, f5, f6  (qNaN, 1). -/
theorem test_fltS_2 :
    (ran 0xA06293D3 (((State.reset.setX 7#5 0x55#32).setF 5#5 0xFFFFFFFF7FC00000#64).setF 6#5 0xFFFFFFFF3F800000#64)).map (fun t => (t.readX 7#5, t.fcsr, t.pc)) =
      some (0#32, 0x10#32, 0x1004#32) := by decide +kernel

/-- FLE.S x7, f5, f6  (-0, +0). -/
theorem test_fleS_1 :
    (ran 0xA06283D3 (((State.reset.setX 7#5 0x55#32).setF 5#5 0xFFFFFFFF80000000#64).setF 6#5 0xFFFFFFFF00000000#64)).map (fun t => (t.readX 7#5, t.pc)) =
      some (1#32, 0x1004#32) := by decide +kernel

/-- FLE.S x7, f5, f6  (qNaN, qNaN). -/
theorem test_fleS_2 :
    (ran 0xA06283D3 (((State.reset.setX 7#5 0x55#32).setF 5#5 0xFFFFFFFF7FC00000#64).setF 6#5 0xFFFFFFFF7FC00000#64)).map (fun t => (t.readX 7#5, t.fcsr, t.pc)) =
      some (0#32, 0x10#32, 0x1004#32) := by decide +kernel

/-- FCLASS.S x7, f5  (sNaN, sign set). -/
theorem test_fclassS_1 :
    (ran 0xE00293D3 (State.reset.setF 5#5 0xFFFFFFFFFFBFFFFF#64)).map (fun t => (t.readX 7#5, t.pc)) =
      some (0x100#32, 0x1004#32) := by decide +kernel

/-- FCLASS.S x7, f5  (-0). -/
theorem test_fclassS_2 :
    (ran 0xE00293D3 (State.reset.setF 5#5 0xFFFFFFFF80000000#64)).map (fun t => (t.readX 7#5, t.pc)) =
      some (8#32, 0x1004#32) := by decide +kernel

/-- FCVT.S.W 16777217 rne (tie to even). -/
theorem test_fcvtSW_1 :
    (ran 0xD00283D3 (State.reset.setX 5#5 0x1000001#32)).map (fun t => (t.readF 7#5, t.fcsr, t.pc)) =
      some (0xFFFFFFFF4B800000#64, 1#32, 0x1004#32) := by decide +kernel

/-- FCVT.S.W 16777217 rup. -/
theorem test_fcvtSW_2 :
    (ran 0xD002B3D3 (State.reset.setX 5#5 0x1000001#32)).map (fun t => (t.readF 7#5, t.fcsr, t.pc)) =
      some (0xFFFFFFFF4B800001#64, 1#32, 0x1004#32) := by decide +kernel

/-- FCVT.S.WU 0xFFFFFFFF rne. -/
theorem test_fcvtSWu_1 :
    (ran 0xD01283D3 (State.reset.setX 5#5 0xFFFFFFFF#32)).map (fun t => (t.readF 7#5, t.fcsr, t.pc)) =
      some (0xFFFFFFFF4F800000#64, 1#32, 0x1004#32) := by decide +kernel

/-- FCVT.S.WU 0xFFFFFFFF rtz. -/
theorem test_fcvtSWu_2 :
    (ran 0xD01293D3 (State.reset.setX 5#5 0xFFFFFFFF#32)).map (fun t => (t.readF 7#5, t.fcsr, t.pc)) =
      some (0xFFFFFFFF4F7FFFFF#64, 1#32, 0x1004#32) := by decide +kernel

/-- FMV.W.X f7, x5. -/
theorem test_fmvWX_1 :
    (ran 0xF00283D3 (State.reset.setX 5#5 0x7FA00001#32)).map (fun t => (t.readF 7#5, t.pc)) =
      some (0xFFFFFFFF7FA00001#64, 0x1004#32) := by decide +kernel

/-- FMV.W.X f7, x0. -/
theorem test_fmvWX_2 :
    (ran 0xF00003D3 (State.reset.setF 7#5 0xFFFFFFFF3F800000#64)).map (fun t => (t.readF 7#5, t.pc)) =
      some (0xFFFFFFFF00000000#64, 0x1004#32) := by decide +kernel

/-- RDCYCLE, RDTIME and RDINSTRET x5 read CSRs that are not implemented (30_encoding.md R126): IllegalCSR, no register written. -/
theorem test_counter_reads_trap :
    ∀ w ∈ [0xC00022F3, 0xC01022F3, 0xC02022F3],
      (ran w (State.reset.setX 5#5 7#32)).map (fun t => (t.trapCause, t.trapPc, t.readX 5#5, t.pc)) =
        some (some .illegalCsr, 0x1000#32, 7#32, 0x100#32) := by decide +kernel

/-! ### Hypotheses that are met: one witness for each statement that has any -/

/-- A state in the middle of a run: bytes in RAM at its first and last addresses, registers, flags and a dynamic mode, a cycle
count, a trap behind it, and CSRRW x5, fcsr, x5 at `pc`. -/
def busy : State :=
  ({ State.reset with memory := [(0, 0x5A#8), (0xFFFF, 0xA5#8)], cycle := 7, trapPc := 0x2000#32, trapCause := some .ebreak } : State)
    |>.setX 5#5 0x41#32 |>.setF 6#5 0xFFFFFFFFBFC00000#64 |>.csrWrite .fcsr 0x7F#32 |>.withFetchWord 32 0x003292F3

theorem test_busy_inv : busy.Inv :=
  ⟨by decide +kernel, by decide +kernel, by decide +kernel, by decide +kernel,
    ⟨by decide +kernel, by decide +kernel, by decide +kernel⟩, by decide +kernel, by decide +kernel⟩

theorem test_reset_inv : State.reset.Inv :=
  ⟨by decide, by decide, by decide, by decide, ⟨by decide, by decide, by decide⟩, by decide, by decide⟩

theorem passesStepOne_of (s : State) (h : (s.halted, s.stopRequested, decide (s.cfg.haltPc = some s.pc)) = (false, false, false)) :
    PassesStepOne s := by
  simp only [Prod.mk.injEq, decide_eq_false_iff_not] at h
  exact ⟨h.1, h.2.1, h.2.2⟩

/-- A callback with one answer. -/
def withReply (r : ExtReply) (s : State) : State := { s with ext := some ⟨[r], [], none⟩ }

/-- RAM over the whole address space. -/
def allRam : State := { State.reset with cfg := { Config.reference with ramSize := 2 ^ 32 } }

theorem test_witness_UnpopulatedCellsAreIllegal :
    (0x00000001#32).extractLsb' 0 2 ≠ 0b11#2 ∧ (0xFFFFFFFE#32).extractLsb' 0 2 ≠ 0b11#2 := by decide

theorem test_witness_DecodeOfEncodeIsIdentity :
    Instr.wf (.addi 31#5 0#5 0xFFFFF800#32) = true ∧ Instr.wf (.sw 0#5 31#5 0x000007FF#32) = true ∧
    Instr.wf (.beq 1#5 2#5 0xFFFFF000#32) = true ∧ Instr.wf (.bgeu 1#5 2#5 0x00000FFE#32) = true ∧
    Instr.wf (.lui 31#5 0xFFFFF000#32) = true ∧ Instr.wf (.jal 1#5 0xFFF00000#32) = true ∧
    Instr.wf (.jal 1#5 0x000FFFFE#32) = true ∧ Instr.wf (.fence 0x1FFFFFF#25) = true := by decide

theorem test_witness_EncodeOfDecodeIsIdentity : decode 0x80001063#32 = .ok (.bne 0#5 0#5 0xFFFFF000#32) := by decide

theorem test_witness_DecodeIsTheOpcodeTable :
    decode 0x7FF37293#32 = .ok (.andi 5#5 6#5 0x000007FF#32) ∧ ∃ r ∈ opcodeTable, r.covers 0x7FF37293#32 = true := by
  refine ⟨by decide, ?_⟩
  decide +kernel

theorem test_witness_ConstructionLeavesResetValues :
    Config.reference.wf ∧ Memory.wf [(0, 1#8), (0xFFFF, 1#8)] ∧
      ∀ e ∈ ([(0, 1#8), (0xFFFF, 1#8)] : Memory), inRam Config.reference e.1 = true := by decide

theorem test_witness_ResetCommandClearsAllButMisa : busy.Inv ∧ State.reset.Inv := ⟨test_busy_inv, test_reset_inv⟩

theorem test_witness_EveryStepKeepsTheInvariant :
    busy.Inv ∧ ∃ t, step busy = .next t ∧ t.readX 5#5 = 0x7F#32 ∧ t.fcsr = 0x41#32 :=
  ⟨test_busy_inv, _, rfl, by decide +kernel⟩

theorem test_witness_HaltConditionsComeFirst :
    (busy.haltWith .ecall).halted = true ∧
    (({ busy with stopReq := ⟨.const false, [7]⟩ } : State).halted = false ∧ ({ busy with stopReq := ⟨.const false, [7]⟩ } : State).stopRequested = true) ∧
    (({ busy with cfg := { busy.cfg with haltPc := some 0x1000#32 } } : State).halted = false ∧ busy.stopRequested = false ∧
      ({ busy with cfg := { busy.cfg with haltPc := some 0x1000#32 } } : State).cfg.haltPc = some busy.pc) := by decide +kernel

theorem test_witness_CycleCounterCountsRanTicks :
    (PassesStepOne busy ∧ ∃ t, step busy = .next t) ∧
    (¬ PassesStepOne (busy.haltWith .ecall) ∧ ∃ t, step (busy.haltWith .ecall) = .next t) :=
  ⟨⟨passesStepOne_of _ (by decide +kernel), _, rfl⟩, fun h => Bool.noConfusion h.running, _, rfl⟩

theorem test_witness_StepRunsTheDecodedInstruction :
    PassesStepOne busy ∧ busy.irqAnswers = false ∧ ServedByRam (readReq busy.pc .instructionWord) busy ∧
    (decodeBytes [busy.ramByte (byteAddr busy.pc 0), busy.ramByte (byteAddr busy.pc 1), busy.ramByte (byteAddr busy.pc 2),
      busy.ramByte (byteAddr busy.pc 3)]).1 = .ok (.csrrw 5#5 0x003#12 5#5) :=
  ⟨passesStepOne_of _ (by decide +kernel), by decide +kernel, by unfold ServedByRam; decide +kernel, by decide +kernel⟩

/-- The same with a callback that declines the fetch. -/
theorem test_witness_StepRunsTheDecodedInstruction_callback :
    PassesStepOne (withReply .notHandled busy) ∧ ServedByRam (readReq busy.pc .instructionWord) (withReply .notHandled busy) :=
  ⟨passesStepOne_of _ (by decide +kernel), by unfold ServedByRam; decide +kernel⟩

/-- The same fetch served by the callback. -/
theorem test_witness_StepRunsTheDecodedInstruction_served :
    PassesStepOne (withReply ⟨0x003292F3#32, true, false⟩ busy) ∧
    ServedByExt (readReq busy.pc .instructionWord) (withReply ⟨0x003292F3#32, true, false⟩ busy) ∧
    decode ((withReply ⟨0x003292F3#32, true, false⟩ busy).reply (readReq busy.pc .instructionWord)).dataOut = .ok (.csrrw 5#5 0x003#12 5#5) :=
  ⟨passesStepOne_of _ (by decide +kernel), by unfold ServedByExt; decide +kernel, by decide +kernel⟩

/-- `busy` with an interrupt at its cycle. -/
def interrupted : State := { busy with irqPending := ⟨.const false, [7]⟩ }

/-- The first clause: NOP at MTVEC. -/
theorem test_witness_InterruptRedirectsTheTick :
    PassesStepOne (interrupted.putWord 0x100#32 0x00000013#32) ∧ (interrupted.putWord 0x100#32 0x00000013#32).irqAnswers = true ∧
    ∃ u v, (interrupted.putWord 0x100#32 0x00000013#32).interruptHook.memRead .instructionWord 0x100#32 = (some 0x00000013#32, u) ∧
      decode 0x00000013#32 = .ok (.addi 0#5 0#5 0#32) ∧ exec (.addi 0#5 0#5 0#32) u = .next v :=
  ⟨passesStepOne_of _ (by decide +kernel), by decide +kernel, _, _, Prod.ext (by decide +kernel) rfl, by decide +kernel, rfl⟩

/-- The second clause: MTVEC so that its last byte is outside RAM. -/
def interruptedFar : State := { interrupted with cfg := { interrupted.cfg with mtvec := 0xFFFD#32 } }

theorem test_witness_InterruptRedirectsTheTick_unserved :
    PassesStepOne interruptedFar ∧ interruptedFar.irqAnswers = true ∧ NotServed (readReq 0xFFFD#32 .instructionWord) interruptedFar.interruptHook :=
  ⟨passesStepOne_of _ (by decide +kernel), by decide +kernel, .inr ⟨by decide +kernel, 3, by decide +kernel⟩⟩

/-- The third clause: the all-ones word at MTVEC, with `HALT_ON_RESERVED` off and on. -/
theorem test_witness_InterruptRedirectsTheTick_illegal :
    (PassesStepOne (interrupted.putWord 0x100#32 0xFFFFFFFF#32) ∧ (interrupted.putWord 0x100#32 0xFFFFFFFF#32).irqAnswers = true ∧
      (interrupted.putWord 0x100#32 0xFFFFFFFF#32).cfg.haltOnReserved = false ∧
      ∃ u k, (interrupted.putWord 0x100#32 0xFFFFFFFF#32).interruptHook.memRead .instructionWord 0x100#32 = (some 0xFFFFFFFF#32, u) ∧
        decode 0xFFFFFFFF#32 = .rejected k) ∧
    ((interrupted.putWord 0x100#32 0xFFFFFFFF#32).reservedHalts.cfg.haltOnReserved = true ∧
      ∃ u, (interrupted.putWord 0x100#32 0xFFFFFFFF#32).reservedHalts.interruptHook.memRead .instructionWord 0x100#32 =
        (some 0xFFFFFFFF#32, u)) :=
  ⟨⟨passesStepOne_of _ (by decide +kernel), by decide +kernel, by decide +kernel, _, _, Prod.ext (by decide +kernel) rfl, rfl⟩,
    by decide +kernel, _, Prod.ext (by decide +kernel) rfl⟩

/-- The fourth clause, and R395 row 14: ADDI x6, x6, 1 at MTVEC and a hook that keeps answering true. -/
def interruptedAlways : State :=
  ({ State.reset with pc := 0x40#32, irqPending := .always } : State).putWord 0x100#32 0x00130313#32

theorem test_witness_InterruptRedirectsTheTick_always :
    PassesStepOne interruptedAlways ∧ interruptedAlways.irqAnswers = true ∧
    ∃ t, step interruptedAlways = .next t ∧ PassesStepOne t ∧ (t.trapPc, t.readX 6#5, t.pc) = (0x40#32, 1#32, 0x104#32) :=
  ⟨passesStepOne_of _ (by decide +kernel), by decide +kernel, _, rfl, passesStepOne_of _ (by decide +kernel), by decide +kernel⟩

theorem test_interrupt_again :
    ∃ t, step ({ interruptedAlways with pc := 0x104#32, cycle := 1 } : State) = .next t ∧ (t.trapPc, t.pc) = (0x104#32, 0x104#32) :=
  ⟨_, rfl, by decide +kernel⟩

/-- A `pc` one past the last word of RAM, and a callback that faults the fetch. -/
theorem test_witness_FetchFaultTraps :
    (PassesStepOne (busy.setPc 0xFFFD#32) ∧ (busy.setPc 0xFFFD#32).irqAnswers = false ∧
      NotServed (readReq 0xFFFD#32 .instructionWord) (busy.setPc 0xFFFD#32)) ∧
    (PassesStepOne (withReply ⟨0#32, true, true⟩ busy) ∧ busy.irqAnswers = false ∧
      NotServed (readReq busy.pc .instructionWord) (withReply ⟨0#32, true, true⟩ busy)) :=
  ⟨⟨passesStepOne_of _ (by decide +kernel), by decide +kernel, .inr ⟨by decide +kernel, 3, by decide +kernel⟩⟩,
    passesStepOne_of _ (by decide +kernel), by decide +kernel, .inl ⟨by decide +kernel, by decide +kernel⟩⟩

/-- The all-ones word at `pc`, with `HALT_ON_RESERVED` off and on. -/
def illegal : State := busy.putWord 0x1000#32 0xFFFFFFFF#32

theorem test_witness_IllegalWordTrapsOrHalts :
    (PassesStepOne illegal ∧ illegal.irqAnswers = false ∧ illegal.cfg.haltOnReserved = false ∧
      ∃ u r, illegal.memRead .instructionWord illegal.pc = (some 0xFFFFFFFF#32, u) ∧ decode 0xFFFFFFFF#32 = .rejected r) ∧
    (PassesStepOne illegal.reservedHalts ∧ illegal.reservedHalts.irqAnswers = false ∧
      illegal.reservedHalts.cfg.haltOnReserved = true ∧
      ∃ u, illegal.reservedHalts.memRead .instructionWord illegal.reservedHalts.pc = (some 0xFFFFFFFF#32, u)) :=
  ⟨⟨passesStepOne_of _ (by decide +kernel), by decide +kernel, by decide +kernel, _, _, Prod.ext (by decide +kernel) rfl, rfl⟩,
    passesStepOne_of _ (by decide +kernel), by decide +kernel, by decide +kernel, _, Prod.ext (by decide +kernel) rfl⟩

/-- The three outcomes: a completed ADD, a trapped LW, a halted ECALL. -/
theorem test_witness_TrapsArePrecise :
    (∃ t, exec (.add 7#5 5#5 5#5) busy = .next t ∧ t.readX 7#5 = 0x82#32) ∧
    (∃ t, exec (.lw 7#5 0#5 0xFFFFFFFF#32) busy = .next t ∧ t.trapCause = some .accessFaultLoad) ∧
    (∃ t, exec .ecall busy.ecallHalts = .next t ∧ t.halt = some .ecall) :=
  ⟨⟨_, rfl, by decide +kernel⟩, ⟨_, rfl, by decide +kernel⟩, _, rfl, by decide +kernel⟩

theorem test_witness_NoStepChangesWhatIsFixed : ∃ t, step (interrupted.putWord 0x100#32 0x00000013#32) = .next t ∧ t.trapCause = some .interrupt :=
  ⟨_, rfl, by decide +kernel⟩

/-- FADD.S of 1 and 2^-24 toward plus infinity, and a load. -/
theorem test_witness_OnlyCsrInstructionsClearFlags :
    Instr.isCsr (.faddS 7#5 5#5 6#5 (.static .rup)) = false ∧
    ∃ t, exec (.faddS 7#5 5#5 6#5 (.static .rup)) ((busy.setF 5#5 0x3F800000#64).setF 6#5 0x33800000#64) = .next t ∧ t.fflags = 0x1F#32 :=
  ⟨rfl, _, rfl, by decide +kernel⟩

theorem test_witness_OnlyStoresWriteRam :
    Instr.isStore (.lb 7#5 0#5 0#32) = false ∧ ∃ t, exec (.lb 7#5 0#5 0#32) busy = .next t ∧ t.readX 7#5 = 0x5A#32 :=
  ⟨rfl, _, rfl, by decide +kernel⟩

/-- Served by RAM at its last bytes, not served one past them, and the callback's three answers, for reads and for writes. -/
theorem test_witness_MemReadFollowsItsRule :
    ServedByRam (readReq 0xFFFF#32 .byte) busy ∧ ServedByRam (readReq 0xFFFE#32 .halfword) busy ∧ ServedByRam (readReq 0xFFFC#32 .word) busy ∧
    ((busy.reply (readReq 0xFFFD#32 .word)).handled = false ∧ ∃ i, i < 4 ∧ inRam busy.cfg (byteAddr 0xFFFD#32 i) = false) ∧
    (((withReply ⟨1#32, true, true⟩ busy).reply (readReq 0xFFFD#32 .word)).handled = true ∧ ((withReply ⟨1#32, true, true⟩ busy).reply (readReq 0xFFFD#32 .word)).fault = true) ∧
    (((withReply ⟨1#32, true, false⟩ busy).reply (readReq 0xFFFD#32 .word)).handled = true ∧ ((withReply ⟨1#32, true, false⟩ busy).reply (readReq 0xFFFD#32 .word)).fault = false) := by
  refine ⟨?_, ?_, ?_, ⟨by decide +kernel, 3, by decide +kernel⟩, by decide +kernel, by decide +kernel⟩ <;> unfold ServedByRam <;> decide +kernel

theorem test_witness_MemWriteFollowsItsRule :
    ServedByRam (writeReq 0xFFFF#32 0#32 .byte) busy ∧ ServedByRam (writeReq 0#32 0#32 .word) (withReply .notHandled busy) ∧
    ((busy.reply (writeReq 0xFFFF#32 0#32 .halfword)).handled = false ∧ ∃ i, i < 2 ∧ inRam busy.cfg (byteAddr 0xFFFF#32 i) = false) ∧
    ((withReply ⟨1#32, true, true⟩ busy).reply (writeReq 0xFFFF#32 0#32 .halfword)).handled = true := by
  refine ⟨?_, ?_, ⟨by decide +kernel, 1, by decide +kernel⟩, by decide +kernel⟩ <;> unfold ServedByRam <;> decide +kernel

/-- RAM over the whole address space, at an address that wraps, and the last word of the reference RAM. -/
theorem test_witness_MixedWidthAccessesSeeTheSameBytes :
    (allRam.ext = none ∧ ServedByRam (writeReq 0xFFFFFFFE#32 0#32 .word) allRam) ∧ (busy.ext = none ∧ ServedByRam (writeReq 0xFFFC#32 0#32 .word) busy) := by
  refine ⟨⟨rfl, ?_⟩, by decide +kernel, ?_⟩ <;> unfold ServedByRam <;> decide +kernel

theorem test_witness_LuiAndAuipcComplete : Instr.wf (.lui 0#5 0xFFFFF000#32) = true ∧ Instr.wf (.lui 31#5 0#32) = true := by decide

theorem test_witness_BranchesCompareAndJump :
    ∃ taken fallThrough : Word, taken = trunc32 (busy.pc.toNat + (0xFFFFF000#32).toNat) ∧ fallThrough = trunc32 (busy.pc.toNat + 4) ∧
      taken = 0#32 ∧ fallThrough = 0x1004#32 := ⟨_, _, rfl, rfl, by decide +kernel, by decide +kernel⟩

/-- The three sizes at the last address that serves each, with the address from a register and a negative immediate. -/
theorem test_witness_LoadsFromRamComplete :
    (0xFFFF#32 = trunc32 (((busy.setX 5#5 0x10000#32).readX 5#5).toNat + (0xFFFFFFFF#32).toNat) ∧
      ServedByRam (readReq 0xFFFF#32 .byte) (busy.setX 5#5 0x10000#32)) ∧
    (0xFFFE#32 = trunc32 (((busy.setX 5#5 0x10000#32).readX 5#5).toNat + (0xFFFFFFFE#32).toNat) ∧
      ServedByRam (readReq 0xFFFE#32 .halfword) (busy.setX 5#5 0x10000#32)) ∧
    (0xFFFC#32 = trunc32 (((busy.setX 5#5 0x10000#32).readX 5#5).toNat + (0xFFFFFFFC#32).toNat) ∧
      ServedByRam (readReq 0xFFFC#32 .word) (busy.setX 5#5 0x10000#32)) := by
  refine ⟨⟨by decide +kernel, ?_⟩, ⟨by decide +kernel, ?_⟩, by decide +kernel, ?_⟩ <;> unfold ServedByRam <;> decide +kernel

/-- The three sizes at the first address that serves each no longer. -/
theorem test_witness_UnservedLoadsTrap :
    (0x10000#32 = trunc32 (((busy.setX 5#5 0x10000#32).readX 5#5).toNat + (0#32).toNat) ∧ NotServed (readReq 0x10000#32 .byte) (busy.setX 5#5 0x10000#32)) ∧
    (0xFFFF#32 = trunc32 (((busy.setX 5#5 0x10000#32).readX 5#5).toNat + (0xFFFFFFFF#32).toNat) ∧
      NotServed (readReq 0xFFFF#32 .halfword) (busy.setX 5#5 0x10000#32)) ∧
    (0xFFFD#32 = trunc32 (((busy.setX 5#5 0x10000#32).readX 5#5).toNat + (0xFFFFFFFD#32).toNat) ∧
      NotServed (readReq 0xFFFD#32 .word) (busy.setX 5#5 0x10000#32)) :=
  ⟨⟨by decide +kernel, .inr ⟨by decide +kernel, 0, by decide +kernel⟩⟩, ⟨by decide +kernel, .inr ⟨by decide +kernel, 1, by decide +kernel⟩⟩,
    by decide +kernel, .inr ⟨by decide +kernel, 3, by decide +kernel⟩⟩

theorem test_witness_StoresToRamComplete :
    ((busy.setX 5#5 0x10000#32).effAddr 5#5 0xFFFFFFFF#32 = 0xFFFF#32 ∧ ServedByRam (writeReq 0xFFFF#32 0#32 .byte) (busy.setX 5#5 0x10000#32)) ∧
    ((busy.setX 5#5 0x10000#32).effAddr 5#5 0xFFFFFFFE#32 = 0xFFFE#32 ∧ ServedByRam (writeReq 0xFFFE#32 0#32 .halfword) (busy.setX 5#5 0x10000#32)) ∧
    ((busy.setX 5#5 0x10000#32).effAddr 5#5 0xFFFFFFFC#32 = 0xFFFC#32 ∧ ServedByRam (writeReq 0xFFFC#32 0#32 .word) (busy.setX 5#5 0x10000#32)) := by
  refine ⟨⟨by decide +kernel, ?_⟩, ⟨by decide +kernel, ?_⟩, by decide +kernel, ?_⟩ <;> unfold ServedByRam <;> decide +kernel

/-- An answer that takes the access at an address outside RAM, a read and a write. -/
theorem test_witness_CallbackAccessesComplete :
    (withReply ⟨0xFFFFFF80#32, true, false⟩ busy).effAddr 0#5 0xFFFFF800#32 = 0xFFFFF800#32 ∧
    (ServedByExt (readReq 0xFFFFF800#32 .byte) (withReply ⟨0xFFFFFF80#32, true, false⟩ busy) ∧
      0xFFFFFF80#32 = ((withReply ⟨0xFFFFFF80#32, true, false⟩ busy).reply (readReq 0xFFFFF800#32 .byte)).dataOut) ∧
    ServedByExt (writeReq 0xFFFFF800#32 0#32 .word) (withReply ⟨0xFFFFFF80#32, true, false⟩ busy) := by
  unfold ServedByExt; decide +kernel

theorem test_witness_UnservedStoresTrap :
    (busy.effAddr 0#5 0xFFFFFFFF#32 = 0xFFFFFFFF#32 ∧ NotServed (writeReq 0xFFFFFFFF#32 0#32 .byte) busy) ∧
    ((busy.setX 5#5 0x10000#32).effAddr 5#5 0xFFFFFFFF#32 = 0xFFFF#32 ∧ NotServed (writeReq 0xFFFF#32 0#32 .halfword) (busy.setX 5#5 0x10000#32)) ∧
    ((busy.setX 5#5 0x10000#32).effAddr 5#5 0xFFFFFFFD#32 = 0xFFFD#32 ∧ NotServed (writeReq 0xFFFD#32 0#32 .word) (busy.setX 5#5 0x10000#32)) :=
  ⟨⟨by decide +kernel, .inr ⟨by decide +kernel, 0, by decide +kernel⟩⟩, ⟨by decide +kernel, .inr ⟨by decide +kernel, 1, by decide +kernel⟩⟩,
    by decide +kernel, .inr ⟨by decide +kernel, 3, by decide +kernel⟩⟩

theorem test_witness_AluImmediatesComplete : 0x1004#32 = trunc32 (busy.pc.toNat + 4) := by decide +kernel

/-- A count of 32, which shifts by 0, and a count of 31. -/
theorem test_witness_ShiftsComplete :
    (0x1004#32 = trunc32 (busy.pc.toNat + 4) ∧ 0 = ((busy.setX 6#5 32#32).readX 6#5).toNat % 32) ∧
    31 = ((busy.setX 6#5 0xFFFFFFFF#32).readX 6#5).toNat % 32 := by decide +kernel

theorem test_witness_AluRegistersComplete : 0#32 = trunc32 ((busy.setPc 0xFFFFFFFC#32).pc.toNat + 4) := by decide +kernel

theorem test_witness_FenceEcallEbreakEnd : busy.cfg.haltOnEcall = false ∧ busy.ecallHalts.cfg.haltOnEcall = true := by decide +kernel

theorem test_witness_MultipliesComplete : 0x1004#32 = trunc32 (busy.pc.toNat + 4) := by decide +kernel

/-- Divisor 0 and divisor 2^32 - 1. -/
theorem test_witness_UnsignedDividesComplete :
    (0x1004#32 = trunc32 (busy.pc.toNat + 4) ∧ 65 = (busy.readX 5#5).toNat ∧ 0 = (busy.readX 0#5).toNat) ∧
    4294967295 = ((busy.setX 6#5 0xFFFFFFFF#32).readX 6#5).toNat := by decide +kernel

/-- The three clauses: divisor 0, the overflow, and an ordinary pair of mixed signs. -/
theorem test_witness_SignedDividesComplete :
    (0x1004#32 = trunc32 (busy.pc.toNat + 4) ∧ (0 : Int) = (busy.readX 0#5).toInt) ∧
    (-2147483648 = ((busy.setX 6#5 0x80000000#32).readX 6#5).toInt ∧ -1 = ((busy.setX 7#5 0xFFFFFFFF#32).readX 7#5).toInt) ∧
    ((65 : Int) = (busy.readX 5#5).toInt ∧ (-65 : Int) = (65 : Int).sign * (-1 : Int).sign * (Int.natAbs 65 / Int.natAbs (-1) : Nat)) := by
  decide +kernel

theorem test_witness_MulDivLawsHold :
    (1#32 ≠ 0#32 ∧ ¬ (0x80000000#32 = 0x80000000#32 ∧ 1#32 = 0xFFFFFFFF#32)) ∧
    (0xFFFFFFFF#32 ≠ 0#32 ∧ ¬ (0x80000001#32 = 0x80000000#32 ∧ 0xFFFFFFFF#32 = 0xFFFFFFFF#32)) := by decide

theorem test_witness_CsrInstructionsComplete :
    csrOfAddr 0x001#12 = some .fflags ∧ csrOfAddr 0x002#12 = some .frm ∧ csrOfAddr 0x003#12 = some .fcsr ∧
    csrOfAddr 0x301#12 = some .misa := by decide

theorem test_witness_UnimplementedCsrTraps :
    ∀ a ∈ [0x000#12, 0x004#12, 0x300#12, 0x302#12, 0xC00#12, 0xC02#12, 0xFFF#12], a.toNat ∉ [0x001, 0x002, 0x003, 0x301] := by decide

theorem test_witness_CsrReadBackIsConsistent : FpCsrInv busy ∧ FpCsrInv (busy.csrWrite .fcsr 0xFF#32) :=
  ⟨test_busy_inv.fpCsr, by decide +kernel, by decide +kernel, by decide +kernel⟩

theorem test_witness_AccrualOrsTheFlags : FpFlags.empty.nv = false ∧ FpFlags.empty.nx = false ∧ busy.accrue .empty = busy := by
  decide +kernel

/-- FRM = 5 and FRM = 7, the boundary of the modes that name none; FRM = 4 names one. -/
theorem test_witness_InvalidRoundingModeIsIllegal :
    (busy.csrWrite .frm 5#32).effRm .dyn = none ∧ (busy.csrWrite .frm 7#32).effRm .dyn = none ∧ busy.cfg.haltOnReserved = false ∧
    (busy.csrWrite .frm 5#32).reservedHalts.effRm .dyn = none ∧ busy.reservedHalts.cfg.haltOnReserved = true := by decide +kernel

/-- The modes and operands; then the value clauses on 1, 2, -2, zeros and infinities: an exact value that is not 0, a sum of two zeros
of one sign and of two, a cancelled sum, an infinite product with a finite and with an equal infinite addend, an infinite addend. -/
theorem test_witness_FusedMultiplyAddsComplete :
    (busy.effRm .dyn = some .rup ∧ busy.effRm (.static .rmm) = some .rmm ∧ 0xBFC00000#32 = (busy.readF 6#5).setWidth 32) ∧
    (IsFinite 0x3F800000#32 ∧ IsFinite 0x40000000#32 ∧ IsFinite 0xC0000000#32 ∧ IsFinite 0x80000000#32 ∧ IsFinite 0x7F7FFFFF#32) ∧
    Fp.num 0x3F800000#32 * Fp.num 0x40000000#32 + Fp.num 0x40000000#32 * 2 ^ 149 ≠ 0 ∧
    (Fp.num 0x80000000#32 * Fp.num 0x3F800000#32 = 0 ∧ ((Fp.sign 0x80000000#32 ^^ Fp.sign 0x3F800000#32) ^^ false) = Fp.sign 0x80000000#32) ∧
    (Fp.num 0x3F800000#32 * Fp.num 0x40000000#32 + Fp.num 0xC0000000#32 * 2 ^ 149 = 0 ∧ Fp.num 0x3F800000#32 * Fp.num 0x40000000#32 ≠ 0) ∧
    (Fp.isInf 0xFF800000#32 = true ∧ Fp.isZero 0x00000001#32 = false ∧
      ((Fp.sign 0xFF800000#32 ^^ Fp.sign 0x00000001#32) ^^ false) = Fp.sign 0xFF800000#32) := by decide +kernel

/-- The modes and operands; then the value clauses: finite patterns at the ends of their range, sums and differences that are 0 and
that are not, magnitudes that are 0 and that are not, two infinities of one sign and of two, and the roots. -/
theorem test_witness_FloatArithmeticCompletes :
    ((busy.csrWrite .frm 4#32).effRm .dyn = some .rmm ∧ 0xBFC00000#32 = (busy.readF 6#5).setWidth 32) ∧
    (IsFinite 0x00000001#32 ∧ IsFinite 0xFF7FFFFF#32 ∧ Fp.num 0x00000001#32 + Fp.num 0xFF7FFFFF#32 ≠ 0 ∧
      Fp.num 0x00000001#32 - Fp.num 0xFF7FFFFF#32 ≠ 0 ∧ Fp.mag 0x00000001#32 ≠ 0 ∧ Fp.mag 0xFF7FFFFF#32 ≠ 0) ∧
    (IsFinite 0x80000000#32 ∧ Fp.num 0x80000000#32 + Fp.num 0#32 = 0 ∧ Fp.num 0x80000000#32 - Fp.num 0#32 = 0 ∧ Fp.mag 0x80000000#32 = 0 ∧
      Fp.num 0x3F800000#32 + Fp.num 0xBF800000#32 = 0) ∧
    (Fp.isInf 0x7F800000#32 = true ∧ Fp.isNaN 0x7F800000#32 = false ∧ false = (Fp.sign 0x7F800000#32 ^^ Fp.sign 0x7F800000#32) ∧
      true = (Fp.sign 0x7F800000#32 ^^ Fp.sign 0xFF800000#32)) ∧
    (Fp.sign 0x00000001#32 = false ∧ Fp.isZero 0x00000001#32 = false ∧ Fp.sign 0x7F800000#32 = false) := by decide +kernel

theorem test_witness_SignsMovesAndClassComplete : ∃ clear, clear = FpFlags.empty ∧ 0xBFC00000#32 = (busy.readF 6#5).setWidth 32 :=
  ⟨_, rfl, by decide +kernel⟩

theorem test_witness_MinMaxAndComparesComplete :
    0xBFC00000#32 = (busy.readF 6#5).setWidth 32 ∧ 0#32 = (busy.readF 0#5).setWidth 32 := by decide +kernel

/-- An integer register that is zero, and one whose signed value is negative. -/
theorem test_witness_ConversionsComplete :
    (busy.effRm .dyn = some .rup ∧ 0xBFC00000#32 = (busy.readF 6#5).setWidth 32) ∧ 0#32 = busy.readX 0#5 ∧
    (0x80000000#32 = (busy.setX 7#5 0x80000000#32).readX 7#5 ∧ (0x80000000#32).toInt < 0) := by decide +kernel

/-- One half: a tie, for both signs and every mode (44_fp_numerics.md R263). -/
theorem test_witness_RoundIntRoundsAsItsMode :
    0 < 2 ∧ Fp.roundInt ⟨1, 2⟩ .rne false = 0 ∧ Fp.roundInt ⟨3, 2⟩ .rne false = 2 ∧ Fp.roundInt ⟨1, 2⟩ .rtz true = 0 ∧
    Fp.roundInt ⟨1, 2⟩ .rdn true = 1 ∧ Fp.roundInt ⟨1, 2⟩ .rup false = 1 ∧ Fp.roundInt ⟨1, 2⟩ .rmm true = 1 := by decide +kernel

/-- One third, whose nearest pattern is 3EAAAAAB, inexact; then each threshold, met and just missed: MAXF plus half a unit and 2^128
for OF, 2^-126 less half a unit of 24 bits for UF (44_fp_numerics.md R265, R266). -/
theorem test_witness_Round32FlagsAreRight :
    (0 < 1 ∧ 0 < 3 ∧ Fp.round32 false ⟨1, 3⟩ .rne = (0x3EAAAAAB#32, ⟨false, false, false, false, true⟩)) ∧
    Fp.round32 true ⟨(2 ^ 25 - 1) * 2 ^ 103, 1⟩ .rne = (0xFF800000#32, ⟨false, false, true, false, true⟩) ∧
    Fp.round32 false ⟨(2 ^ 25 - 1) * 2 ^ 103 - 1, 1⟩ .rmm = (0x7F7FFFFF#32, ⟨false, false, false, false, true⟩) ∧
    Fp.round32 false ⟨2 ^ 128, 1⟩ .rtz = (0x7F7FFFFF#32, ⟨false, false, true, false, true⟩) ∧
    Fp.round32 false ⟨2 ^ 128 - 1, 1⟩ .rdn = (0x7F7FFFFF#32, ⟨false, false, false, false, true⟩) ∧
    Fp.round32 false ⟨(2 ^ 24 - 1) * 2 ^ 104 + 1, 1⟩ .rup = (0x7F800000#32, ⟨false, false, true, false, true⟩) ∧
    Fp.round32 false ⟨2 ^ 25 - 1, 2 ^ 151⟩ .rne = (0x00800000#32, ⟨false, false, false, false, true⟩) ∧
    Fp.round32 false ⟨2 ^ 26 - 3, 2 ^ 152⟩ .rne = (0x00800000#32, ⟨false, false, false, true, true⟩) ∧
    Fp.round32 false ⟨2 ^ 24 - 1, 2 ^ 150⟩ .rup = (0x00800000#32, ⟨false, false, false, true, true⟩) ∧
    Fp.round32 true ⟨1, 2 ^ 150⟩ .rdn = (0x80000001#32, ⟨false, false, false, true, true⟩) := by decide +kernel

/-- One third toward and away from zero; then the tie 1 + 2^-24, whose neighbours are 3F800000 and 3F800001 (44_fp_numerics.md R263),
a value with no finite neighbour above, and one nearest to an infinity. -/
theorem test_witness_Round32PicksTheRightNeighbour :
    (0x3EAAAAAA#32 = (Fp.round32 false ⟨1, 3⟩ .rtz).1 ∧ IsFinite 0x3EAAAAA9#32) ∧ 0xBEAAAAAB#32 = (Fp.round32 true ⟨1, 3⟩ .rdn).1 ∧
    (0x3F800000#32 = (Fp.round32 false ⟨2 ^ 24 + 1, 2 ^ 24⟩ .rne).1 ∧ IsFinite 0x3F800001#32 ∧
      Fp.mag 0x3F800001#32 ≠ Fp.mag 0x3F800000#32 ∧
      ((Fp.mag 0x3F800001#32 * 2 ^ 24 : Int) - (2 ^ 24 + 1) * 2 ^ 149).natAbs =
        ((Fp.mag 0x3F800000#32 * 2 ^ 24 : Int) - (2 ^ 24 + 1) * 2 ^ 149).natAbs) ∧
    0x3F800001#32 = (Fp.round32 false ⟨2 ^ 24 + 1, 2 ^ 24⟩ .rmm).1 ∧
    0x7F800000#32 = (Fp.round32 false ⟨(2 ^ 24 - 1) * 2 ^ 104 + 1, 1⟩ .rup).1 ∧
    0xFF800000#32 = (Fp.round32 true ⟨(2 ^ 25 - 1) * 2 ^ 103, 1⟩ .rmm).1 := by decide +kernel

/-- Every clause, with NaN operands in each place: the invalid operations of 44_fp_numerics.md R269 (a) to (e) in each of their
orders, 1 / 0 of R270, and the root of -0. -/
theorem test_witness_ArithmeticNanAndFlagRules :
    ∃ nv : FpFlags, nv = ⟨true, false, false, false, false⟩ ∧
    (Fp.fsub32 0#32 0x7FC00000#32 .rne = (0x7FC00000#32, .empty) ∧ Fp.fdiv32 0#32 0xFFBFFFFF#32 .rne = (0x7FC00000#32, nv) ∧
      Fp.fma32 0#32 0#32 0x7F800001#32 .rne false false = (0x7FC00000#32, nv) ∧
      Fp.fma32 0#32 0xFFC00000#32 0#32 .rne false false = (0x7FC00000#32, .empty)) ∧
    (Fp.fadd32 0x7F800000#32 0xFF800000#32 .rne = (0x7FC00000#32, nv) ∧ Fp.fsub32 0x7F800000#32 0x7F800000#32 .rne = (0x7FC00000#32, nv)) ∧
    (Fp.fmul32 0x80000000#32 0xFF800000#32 .rne = (0x7FC00000#32, nv) ∧ Fp.fmul32 0xFF800000#32 0x80000000#32 .rne = (0x7FC00000#32, nv) ∧
      Fp.fma32 0x7F800000#32 0#32 0x7FC00000#32 .rne false false = (0x7FC00000#32, nv) ∧
      Fp.fma32 0#32 0x7F800000#32 0x3F800000#32 .rne false false = (0x7FC00000#32, nv) ∧
      Fp.fma32 0x7F800000#32 0x3F800000#32 0x7F800000#32 .rne false true = (0x7FC00000#32, nv)) ∧
    (Fp.fdiv32 0#32 0x80000000#32 .rne = (0x7FC00000#32, nv) ∧ Fp.fdiv32 0x7F800000#32 0xFF800000#32 .rne = (0x7FC00000#32, nv)) ∧
    (Fp.fsqrt32 0x80000001#32 .rne = (0x7FC00000#32, nv) ∧ Fp.isNaN 0x80000001#32 = false ∧ Fp.isZero 0x80000001#32 = false) ∧
    (IsFinite 0xBF800000#32 ∧ Fp.fdiv32 0xBF800000#32 0#32 .rne = (0xFF800000#32, ⟨false, true, false, false, false⟩)) ∧
    (Fp.isZero 0x80000000#32 = true ∧ Fp.fsqrt32 0x80000000#32 .rne = (0x80000000#32, .empty)) := by
  refine ⟨_, rfl, ?_⟩
  decide +kernel

theorem test_witness_SubtractSelfAndMultiplyByOne :
    Fp.isNaN 0x7F7FFFFF#32 = false ∧ Fp.isInf 0x7F7FFFFF#32 = false ∧ Fp.isNaN 0x80000001#32 = false ∧ Fp.isNaN 0x7F800000#32 = false := by
  decide +kernel

/-- No zero factor, and a zero times an infinity. -/
theorem test_witness_FusedAgreesWithMultiplyAndAdd :
    ¬ (Fp.isZero 0x00000001#32 = true ∨ Fp.isZero 0x3F000000#32 = true) ∧
    (Fp.isZero 0x80000000#32 = true ∧ Fp.isInf 0x7F800000#32 = true) := by decide +kernel

theorem test_witness_SquareRootIsFloorWithSticky :
    (2 ^ 340 - 1 < 2 ^ 340) ∧ Fp.isNaN 0x7F7FFFFF#32 = false ∧ Fp.isInf 0x7F7FFFFF#32 = false := by decide +kernel

/-- One NaN on either side and on both, zeros of two signs, pairs of two non-negative and of two negative patterns, and the ends of the
ranges of 44_fp_numerics.md R282. -/
theorem test_witness_OrderAndClassLawsHold :
    (Fp.isNaN 0x3F800000#32 = false ∧ Fp.isNaN 0x7FC00000#32 = true ∧ Fp.isNaN 0xFF800001#32 = true) ∧
    (Fp.sign 0x80000000#32 = true ∧ Fp.sign 0#32 = false ∧ Fp.isNaN 0x80000000#32 = false) ∧
    (Fp.sign 0x7F800000#32 = false ∧ Fp.sign 0xFF800000#32 = true ∧ Fp.isNaN 0xFF800000#32 = false) ∧
    (Fp.flt32 0xFF800000#32 0x7F800000#32).1 = 1#32 ∧ (Fp.feq32 0x80000000#32 0#32).1 = 1#32 ∧
    (Fp.fclass32 0xFF7FFFFF#32 = 0x002#32 ∧ Fp.fclass32 0x80800000#32 = 0x002#32 ∧ Fp.fclass32 0x807FFFFF#32 = 0x004#32 ∧
      Fp.fclass32 0x00000001#32 = 0x020#32 ∧ Fp.fclass32 0x7F7FFFFF#32 = 0x040#32 ∧ Fp.fclass32 0x7FBFFFFF#32 = 0x100#32 ∧
      Fp.fclass32 0xFF800001#32 = 0x100#32 ∧ Fp.fclass32 0x7FC00000#32 = 0x200#32) := by decide +kernel

/-- A NaN; then each range at its ends, with the nearest pattern on the other side: 2^31, -2^31, 2^32, -1, and -1/2, which two modes
round to -1 and two to 0 (44_fp_numerics.md R280). -/
theorem test_witness_ConversionsSaturateAndRoundTrip :
    (∃ nv : FpFlags, nv = ⟨true, false, false, false, false⟩ ∧ Fp.fcvtW32 0xFFC00000#32 .rne = (0x7FFFFFFF#32, nv)) ∧
    (2 ^ 31 * 2 ^ 149 ≤ Fp.ext 0x4F000000#32 ∧ Fp.ext 0x4EFFFFFF#32 < 2 ^ 31 * 2 ^ 149) ∧
    (Fp.ext 0xCF000001#32 < -(2 ^ 31 * 2 ^ 149) ∧ -(2 ^ 31 * 2 ^ 149) ≤ Fp.ext 0xCF000000#32) ∧
    (2 ^ 32 * 2 ^ 149 ≤ Fp.ext 0x4F800000#32 ∧ 0 ≤ Fp.ext 0x4F7FFFFF#32 ∧ Fp.ext 0x4F7FFFFF#32 < 2 ^ 32 * 2 ^ 149) ∧
    (Fp.ext 0xBF800000#32 ≤ -(2 ^ 149) ∧ -(2 ^ 149) < Fp.ext 0xBF7FFFFF#32 ∧ Fp.ext 0xBF7FFFFF#32 < 0 ∧ 0 ≤ Fp.ext 0x80000000#32) ∧
    (RoundedInt .rdn (Fp.num 0xBF000000#32) (-1) ∧ RoundedInt .rmm (Fp.num 0xBF000000#32) (-1) ∧
      ¬ RoundedInt .rne (Fp.num 0xBF000000#32) (-1) ∧ ¬ RoundedInt .rtz (Fp.num 0xBF000000#32) (-1)) ∧
    (-(2 ^ 31) ≤ (Fp.num 0xCF000000#32).tdiv (2 ^ 149) ∧ (Fp.num 0xCF000000#32).tdiv (2 ^ 149) ≤ 2 ^ 31 - 1) ∧
    (-(2 ^ 31) ≤ (Fp.num 0x4EFFFFFF#32).tdiv (2 ^ 149) ∧ (Fp.num 0x4EFFFFFF#32).tdiv (2 ^ 149) ≤ 2 ^ 31 - 1) :=
  ⟨⟨_, rfl, by decide +kernel⟩, by decide +kernel, by decide +kernel, by decide +kernel, by decide +kernel,
    ⟨by decide +kernel, by decide +kernel, by decide +kernel, by decide +kernel⟩, by decide +kernel, by decide +kernel⟩

end Sys2Proof.Tests
end

section
/-! SUPPORT. What an instruction and a tick can do to the state, said once: a sequence of the model's named updates. -/

namespace Sys2Proof.Machine

/-- What executing an instruction does to the state: a sequence of the model's own updates, after `s`. The callback is asked, the fault
flag is consumed, a trap or a halt is entered, registers and CSR cells are written; `ram` says whether bytes of RAM may be written (by
an access whose bytes all lie in RAM), `csr` whether a CSR may be. -/
inductive Updates (ram csr : Bool) (s : State) : State → Prop where
  | refl : Updates ram csr s s
  | setX {t : State} (rd : XReg) (v : Word) (h : Updates ram csr s t) : Updates ram csr s (t.setX rd v)
  | setF32 {t : State} (rd : FReg) (v : Word) (h : Updates ram csr s t) : Updates ram csr s (t.setF32 rd v)
  | setPc {t : State} (a : Word) (h : Updates ram csr s t) : Updates ram csr s (t.setPc a)
  | accrue {t : State} (F : FpFlags) (h : Updates ram csr s t) : Updates ram csr s (t.accrue F)
  | csrWrite {t : State} (hcsr : csr = true) (c : Csr) (w : Word) (h : Updates ram csr s t) : Updates ram csr s (t.csrWrite c w)
  | asked {t : State} (req : ExtRequest) (h : Updates ram csr s t) : Updates ram csr s (t.asked req)
  | clearFault {t : State} (h : Updates ram csr s t) : Updates ram csr s { t with faultFlag := false }
  | trapEntry {t : State} (k : TrapCause) (h : Updates ram csr s t) : Updates ram csr s (t.trapEntry k)
  | haltWith {t : State} (r : HaltReason) (h : Updates ram csr s t) : Updates ram csr s (t.haltWith r)
  | store {t : State} (hram : ram = true) (a v : Word) (n : Nat) (hin : ∀ i, i < n → inRam t.cfg (byteAddr a i) = true)
      (h : Updates ram csr s t) : Updates ram csr s { t with memory := storeBytes a v t.memory n }

namespace Updates

variable {ram csr : Bool} {s t u : State}

theorem trans (hst : Updates ram csr s t) (htu : Updates ram csr t u) : Updates ram csr s u := by
  induction htu with
  | refl => exact hst
  | setX rd v _ ih => exact ih.setX rd v
  | setF32 rd v _ ih => exact ih.setF32 rd v
  | setPc a _ ih => exact ih.setPc a
  | accrue F _ ih => exact ih.accrue F
  | csrWrite hcsr c w _ ih => exact ih.csrWrite hcsr c w
  | asked req _ ih => exact ih.asked req
  | clearFault _ ih => exact ih.clearFault
  | trapEntry k _ ih => exact ih.trapEntry k
  | haltWith r _ ih => exact ih.haltWith r
  | store hram a v n hin _ ih => exact ih.store hram a v n hin

theorem advance (h : Updates ram csr s t) : Updates ram csr s t.advance := h.setPc _

theorem raise (k : TrapCause) (h : Updates ram csr s t) : Updates ram csr s (t.raise k) := by
  rcases raise_cases k t with hk | hk | ⟨-, -, hk⟩ | ⟨-, -, hk⟩ <;> rw [hk]
  · exact h.trapEntry k
  · exact h.clearFault.trapEntry k
  · exact h.haltWith _
  · exact h.haltWith _

/-- No update touches the parameters, MISA (its mask is 0), the privilege level, the cycle counter or the two sampled inputs. -/
theorem sameFixed (h : Updates ram csr s t) : SameFixed s t := by
  induction h with
  | refl => exact ⟨rfl, rfl, rfl, rfl, rfl, rfl⟩
  | setX _ _ _ ih | csrWrite _ _ _ _ ih =>
    constructor <;> simp [ih.cfg, ih.misa, ih.priv, ih.cycle, ih.stopReq, ih.irqPending]
  | setF32 _ _ _ ih | setPc _ _ ih | accrue _ _ ih | asked _ _ ih | clearFault _ ih | trapEntry _ _ ih | haltWith _ _ ih
  | store _ _ _ _ _ _ ih =>
    exact ⟨ih.cfg, ih.misa, ih.priv, ih.cycle, ih.stopReq, ih.irqPending⟩

theorem memory_eq (h : Updates false csr s t) : t.memory = s.memory := by
  induction h with
  | refl => rfl
  | setX _ _ _ ih | csrWrite _ _ _ _ ih => simpa using ih
  | setF32 _ _ _ ih | setPc _ _ ih | accrue _ _ ih | asked _ _ ih | clearFault _ ih | trapEntry _ _ ih | haltWith _ _ ih =>
    exact ih
  | store hram => exact absurd hram Bool.false_ne_true

end Updates

/-- An instruction's answer is a next state, reached by updates. -/
def EndsUpdated (ram csr : Bool) (s : State) (res : Result) : Prop := ∃ t, res = .next t ∧ Updates ram csr s t

section
variable (ram csr : Bool) (s : State)

theorem endsUpdated_writeX (rd : XReg) (v : Word) : EndsUpdated ram csr s (writeX rd v s) :=
  ⟨_, rfl, (Updates.refl.setX rd v).advance⟩

theorem endsUpdated_writeF (rd : FReg) (v : Word) : EndsUpdated ram csr s (writeF rd v s) :=
  ⟨_, rfl, (Updates.refl.setF32 rd v).advance⟩

theorem endsUpdated_jump (rd : XReg) (v target : Word) : EndsUpdated ram csr s (.next ((s.setX rd v).setPc target)) :=
  ⟨_, rfl, (Updates.refl.setX rd v).setPc target⟩

theorem endsUpdated_branchIf (taken : Bool) (offset : Word) : EndsUpdated ram csr s (branchIf taken offset s) := by
  cases taken
  · exact ⟨_, rfl, Updates.refl.advance⟩
  · exact ⟨_, rfl, Updates.refl.setPc _⟩

theorem endsUpdated_raise (k : TrapCause) : EndsUpdated ram csr s (.next (s.raise k)) := ⟨_, rfl, Updates.refl.raise k⟩

theorem updates_finishX (rd : XReg) (rF : Word × FpFlags) : Updates ram csr s (finishX rd rF s) :=
  ((Updates.refl.setX rd rF.1).accrue rF.2).advance

theorem updates_finishF (rd : FReg) (rF : Word × FpFlags) : Updates ram csr s (finishF rd rF s) :=
  ((Updates.refl.setF32 rd rF.1).accrue rF.2).advance

theorem endsUpdated_finishX (rd : XReg) (rF : Word × FpFlags) : EndsUpdated ram csr s (.next (finishX rd rF s)) :=
  ⟨_, rfl, updates_finishX ram csr s rd rF⟩

theorem endsUpdated_finishF (rd : FReg) (rF : Word × FpFlags) : EndsUpdated ram csr s (.next (finishF rd rF s)) :=
  ⟨_, rfl, updates_finishF ram csr s rd rF⟩

theorem endsUpdated_withMode (rm : RmField) (run : RoundingMode → State → State) (hrun : ∀ m, Updates ram csr s (run m s)) :
    EndsUpdated ram csr s (withMode rm run s) := by
  rcases withMode_cases rm run s with ⟨m, -, h⟩ | ⟨-, h⟩
  · exact ⟨_, h, hrun m⟩
  · exact ⟨_, h, Updates.refl.raise _⟩

theorem endsUpdated_loadThen (type : AccessType) (a : Word) (put : Word → State → State)
    (hput : ∀ v t, Updates ram csr t (put v t)) : EndsUpdated ram csr s (loadThen type a put s) := by
  have hasked := (Updates.refl (ram := ram) (csr := csr) (s := s)).asked (readReq a type)
  rcases loadThen_cases type a put s with ⟨v, h⟩ | h
  · exact ⟨_, h, (hasked.trans (hput v _)).advance⟩
  · exact ⟨_, h, hasked.clearFault.trapEntry _⟩

theorem endsUpdated_storeThen (type : AccessType) (a v : Word) : EndsUpdated true csr s (storeThen type a v s) := by
  have hasked := (Updates.refl (ram := true) (csr := csr) (s := s)).asked (writeReq a v type)
  rcases storeThen_cases type a v s with ⟨hserved, h⟩ | h | h
  · exact ⟨_, h, Updates.advance (hasked.store rfl a v type.bytes hserved.2)⟩
  · exact ⟨_, h, hasked.advance⟩
  · exact ⟨_, h, hasked.clearFault.trapEntry _⟩

theorem endsUpdated_csrAccess (rd : XReg) (addr : CsrAddr) (new : Word → Option Word) :
    EndsUpdated ram true s (csrAccess rd addr new s) := by
  rcases csrAccess_cases rd addr new s with ⟨-, h⟩ | ⟨c, -, ⟨-, h⟩ | ⟨w, -, h⟩⟩
  · exact ⟨_, h, Updates.refl.trapEntry _⟩
  · exact ⟨_, h, (Updates.refl.setX rd _).advance⟩
  · exact ⟨_, h, ((Updates.refl.csrWrite rfl c w).setX rd _).advance⟩

end

/-- Every instruction answers a next state, reached by updates; the stores alone write RAM, the CSR instructions alone a CSR. -/
theorem exec_endsUpdated (i : Instr) (s : State) : EndsUpdated i.isStore i.isCsr s (exec i s) := by
  cases i with
  | lui | auipc | addi | slti | sltiu | xori | ori | andi | slli | srli | srai
  | add | sub | sll | slt | sltu | xor | srl | sra | or | and
  | mul | mulh | mulhsu | mulhu | div | divu | rem | remu | fmvXW | fclassS => exact endsUpdated_writeX ..
  | jal | jalr => exact endsUpdated_jump ..
  | beq | bne | blt | bge | bltu | bgeu => exact endsUpdated_branchIf ..
  | lb | lh | lw | lbu | lhu => exact endsUpdated_loadThen _ _ _ _ _ _ fun _ _ => Updates.refl.setX _ _
  | flw => exact endsUpdated_loadThen _ _ _ _ _ _ fun _ _ => Updates.refl.setF32 _ _
  | sb | sh | sw | fsw => exact endsUpdated_storeThen ..
  | fence => exact ⟨_, rfl, Updates.refl.advance⟩
  | ecall | ebreak => exact endsUpdated_raise ..
  | csrrw | csrrs | csrrc | csrrwi | csrrsi | csrrci =>
    simp only [exec, execCsrrw, execCsrrs, execCsrrc, execCsrrwi, execCsrrsi, execCsrrci]
    exact endsUpdated_csrAccess ..
  | fmaddS | fmsubS | fnmsubS | fnmaddS | faddS | fsubS | fmulS | fdivS | fsqrtS | fcvtSW | fcvtSWu =>
    exact endsUpdated_withMode _ _ _ _ _ fun _ => updates_finishF ..
  | fcvtWS | fcvtWuS => exact endsUpdated_withMode _ _ _ _ _ fun _ => updates_finishX ..
  | fminS | fmaxS => exact endsUpdated_finishF ..
  | feqS | fltS | fleS => exact endsUpdated_finishX ..
  | fsgnjS | fsgnjnS | fsgnjxS | fmvWX => exact endsUpdated_writeF ..

/-! ### One tick -/

theorem memRead_cases (type : AccessType) (a : Word) (s : State) :
    (∃ v, s.memRead type a = (some v, s.asked (readReq a type))) ∨
      s.memRead type a = (none, (s.asked (readReq a type)).flagFault) := by
  rcases served_cases (readReq a type) s with h | h | h
  · exact .inl ⟨_, memRead_ext type a s h⟩
  · exact .inl ⟨_, memRead_ram type a s h⟩
  · exact .inr (memRead_fault type a s h)

/-- Fetch and decode ask the callback once; then the tick has an instruction, or has raised `IllegalInstruction`, or has trapped with
the fault flag consumed (60_exceptions.md R351, R354). -/
theorem fetchDecode_cases (s : State) :
    (∃ i, s.fetchDecode = .instr i (s.asked (readReq s.pc .instructionWord))) ∨
      s.fetchDecode = .raised ((s.asked (readReq s.pc .instructionWord)).raise .illegalInstruction) ∨
      s.fetchDecode = .raised
        (({ s.asked (readReq s.pc .instructionWord) with faultFlag := false } : State).trapEntry .accessFaultFetch) := by
  rcases memRead_cases .instructionWord s.pc s with ⟨w, h⟩ | h
  · cases hd : decode w with
    | ok i => exact .inl ⟨i, by simp only [State.fetchDecode, h, hd]⟩
    | rejected r => exact .inr (.inl (by simp only [State.fetchDecode, h, hd]))
  · exact .inr (.inr (by simp only [State.fetchDecode, h]; rfl))

theorem eq_asked_of_fetchDecode_instr {s u : State} {i : Instr} (h : s.fetchDecode = .instr i u) :
    u = s.asked (readReq s.pc .instructionWord) := by
  rcases fetchDecode_cases s with ⟨j, hf⟩ | hf | hf
  · exact (Fetched.instr.inj (h.symm.trans hf)).2
  · simp [h] at hf
  · simp [h] at hf

theorem updates_of_fetchDecode_raised (ram csr : Bool) {s u : State} (h : s.fetchDecode = .raised u) : Updates ram csr s u := by
  have hasked := (Updates.refl (ram := ram) (csr := csr) (s := s)).asked (readReq s.pc .instructionWord)
  rcases fetchDecode_cases s with ⟨j, hf⟩ | hf | hf
  · simp [h] at hf
  · exact Fetched.raised.inj (h.symm.trans hf) ▸ hasked.raise _
  · exact Fetched.raised.inj (h.symm.trans hf) ▸ hasked.clearFault.trapEntry _

theorem updates_interruptHook (ram csr : Bool) (s : State) : Updates ram csr s s.interruptHook := by
  unfold State.interruptHook
  split
  · exact Updates.refl.raise _
  · exact .refl

/-- A tick is a sequence of updates, after which the cycle may be counted. -/
theorem step_updates {s t : State} (h : step s = .next t) :
    ∃ ram csr u, Updates ram csr s u ∧ (t = u ∨ t = u.endTick) := by
  rcases step_cases s with ⟨-, hs⟩ | ⟨-, r, -, hs⟩ | ⟨-, -, ⟨u, hf, hs⟩ | ⟨i, u, hf, hs⟩⟩
  · obtain rfl : s = t := by simpa [hs] using h
    exact ⟨false, false, s, .refl, .inl rfl⟩
  · obtain rfl : s.haltWith r = t := by simpa [hs] using h
    exact ⟨false, false, _, Updates.refl.haltWith r, .inl rfl⟩
  · obtain rfl : u.endTick = t := by simpa [hs] using h
    have hupd := (updates_interruptHook false false s).trans (updates_of_fetchDecode_raised _ _ hf)
    exact ⟨_, _, u, hupd, .inr rfl⟩
  · obtain ⟨v, hv, hexec⟩ := exec_endsUpdated i u
    obtain rfl : v.endTick = t := by simpa [hs, hv] using h
    obtain rfl := eq_asked_of_fetchDecode_instr hf
    have hupd := ((updates_interruptHook _ _ s).asked _).trans hexec
    exact ⟨_, _, v, hupd, .inr rfl⟩

end Sys2Proof.Machine
end

section
/-! SUPPORT. The invariant of a tick boundary is kept by each named update. -/

namespace Sys2Proof.Machine

/-! ### Words within a mask -/

theorem toNat_and_ones (w : Word) {k : Nat} (hk : k ≤ 32) : (w &&& BitVec.ofNat 32 (2 ^ k - 1)).toNat = w.toNat % 2 ^ k := by
  have hle : 2 ^ k ≤ 2 ^ 32 := Nat.pow_le_pow_right (by norm_num) hk
  have hpos : 0 < 2 ^ k := by positivity
  rw [BitVec.toNat_and, BitVec.toNat_ofNat, Nat.mod_eq_of_lt (by omega), Nat.and_two_pow_sub_one_eq_mod]

theorem and_ones_eq_self_iff (w : Word) {k : Nat} (hk : k ≤ 32) :
    w &&& BitVec.ofNat 32 (2 ^ k - 1) = w ↔ w.toNat < 2 ^ k := by
  rw [← BitVec.toNat_inj, toNat_and_ones w hk]
  exact ⟨fun h => h ▸ Nat.mod_lt _ (by positivity), Nat.mod_eq_of_lt⟩

theorem and_eq_self_of_masked {w m : Word} (hw : w &&& m = w) {k : Word} (hk : m &&& k = m) : w &&& k = w := by
  rw [← hw, BitVec.and_assoc, hk]

theorem and_eq_zero_of_masked {w m : Word} (hw : w &&& m = w) {k : Word} (hk : m &&& k = 0#32) : w &&& k = 0#32 := by
  rw [← hw, BitVec.and_assoc, hk, BitVec.and_zero]

theorem bits_and_mask (F : FpFlags) : F.bits &&& 0x1F#32 = F.bits := by
  obtain ⟨nv, dz, ovf, unf, nx⟩ := F
  cases nv <;> cases dz <;> cases ovf <;> cases unf <;> cases nx <;> rfl

/-! ### FFLAGS, FRM and FCSR agree (10_state.md R32) -/

/-- The agreement of the three cells in bits: each cell within its mask, FCSR the concatenation of FRM and FFLAGS. -/
theorem fpCsrInv_iff (s : State) : FpCsrInv s ↔
    s.fflags &&& 0x1F#32 = s.fflags ∧ s.frm &&& 0x7#32 = s.frm ∧ s.fcsr = s.frm <<< 5 ||| s.fflags := by
  have hflags := and_ones_eq_self_iff s.fflags (k := 5) (by norm_num)
  have hfrm := and_ones_eq_self_iff s.frm (k := 3) (by norm_num)
  have hconcat (hf : s.fflags.toNat < 2 ^ 5) (hm : s.frm.toNat < 2 ^ 3) :
      (s.frm <<< 5 ||| s.fflags).toNat = s.frm.toNat * 32 + s.fflags.toNat := by
    rw [BitVec.toNat_or, BitVec.toNat_shiftLeft, Nat.shiftLeft_eq, Nat.mod_eq_of_lt (by omega), Nat.mul_comm,
      ← Nat.two_pow_add_eq_or_of_lt hf]
  constructor
  · intro h
    exact ⟨hflags.mpr h.fflags, hfrm.mpr h.frm, BitVec.eq_of_toNat_eq (by rw [h.fcsr, hconcat h.fflags h.frm])⟩
  · rintro ⟨hf, hm, hc⟩
    exact ⟨hflags.mp hf, hfrm.mp hm, by rw [hc, hconcat (hflags.mp hf) (hfrm.mp hm)]⟩

theorem FpCsrInv.of_sameFpCsr {s t : State} (h : FpCsrInv s) (hst : SameFpCsr s t) : FpCsrInv t := by
  obtain ⟨hflags, hfrm, hfcsr⟩ := hst
  exact ⟨hflags ▸ h.fflags, hfrm ▸ h.frm, by rw [hflags, hfrm, hfcsr, h.fcsr]⟩

theorem FpCsrInv.accrue {s : State} (h : FpCsrInv s) (F : FpFlags) : FpCsrInv (s.accrue F) := by
  obtain ⟨hf, hm, hc⟩ := (fpCsrInv_iff s).mp h
  refine (fpCsrInv_iff _).mpr ⟨?_, hm, ?_⟩
  · rw [accrue_fflags, BitVec.and_or_distrib_right, hf, bits_and_mask]
  · rw [accrue_fcsr, accrue_fflags, accrue_frm, hc, BitVec.or_assoc]

theorem FpCsrInv.frm_shift_masked {s : State} (h : FpCsrInv s) : s.frm <<< 5 &&& 0xE0#32 = s.frm <<< 5 := by
  obtain ⟨-, hfrm, -⟩ := (fpCsrInv_iff s).mp h
  calc s.frm <<< 5 &&& 0xE0#32 = s.frm <<< 5 &&& 0x7#32 <<< 5 := by simp
    _ = (s.frm &&& 0x7#32) <<< 5 := (BitVec.shiftLeft_and_distrib ..).symm
    _ = s.frm <<< 5 := by rw [hfrm]

theorem FpCsrInv.fcsr_masked {s : State} (h : FpCsrInv s) : s.fcsr &&& 0xFF#32 = s.fcsr := by
  obtain ⟨hflags, -, hfcsr⟩ := (fpCsrInv_iff s).mp h
  rw [hfcsr, BitVec.and_or_distrib_right, and_eq_self_of_masked h.frm_shift_masked (by decide),
    and_eq_self_of_masked hflags (by decide)]

/-- The three cells agree after a CSR write through its mask and the synchronisation (43_csr.md R233, R234). -/
theorem FpCsrInv.csrStored {s t : State} (h : FpCsrInv s) {c : Csr} {w : Word} (hst : CsrStored c w s t) : FpCsrInv t := by
  obtain ⟨hflags, hfrm, hfcsr⟩ := (fpCsrInv_iff s).mp h
  have hmask (m : Word) : w &&& m &&& m = w &&& m := by rw [BitVec.and_assoc, BitVec.and_self]
  cases c with
  | fflags =>
    obtain ⟨hflags', hfrm', hfcsr'⟩ := hst
    rw [and_eq_zero_of_masked hflags (by decide), BitVec.zero_or] at hflags'
    rw [hfcsr, BitVec.and_or_distrib_right, and_eq_self_of_masked h.frm_shift_masked (by decide),
      and_eq_zero_of_masked hflags (by decide), BitVec.or_zero] at hfcsr'
    rw [fpCsrInv_iff, hflags', hfrm', hfcsr']
    exact ⟨hmask _, hfrm, rfl⟩
  | frm =>
    obtain ⟨hflags', hfrm', hfcsr'⟩ := hst
    rw [and_eq_zero_of_masked hfrm (by decide), BitVec.zero_or] at hfrm'
    rw [hfcsr, BitVec.and_or_distrib_right, and_eq_zero_of_masked h.frm_shift_masked (by decide),
      and_eq_self_of_masked hflags (by decide), BitVec.zero_or] at hfcsr'
    rw [fpCsrInv_iff, hflags', hfrm', hfcsr']
    exact ⟨hflags, hmask _, BitVec.or_comm ..⟩
  | fcsr =>
    obtain ⟨hflags', hfrm', hfcsr'⟩ := hst
    rw [and_eq_zero_of_masked h.fcsr_masked (by decide), BitVec.zero_or] at hfcsr'
    have hlow : t.fflags.toNat = w.toNat % 2 ^ 5 := hflags' ▸ toNat_and_ones w (k := 5) (by norm_num)
    have hmid : t.frm.toNat = w.toNat / 2 ^ 5 % 2 ^ 3 := by
      rw [hfrm', ← Nat.shiftRight_eq_div_pow, ← BitVec.toNat_ushiftRight]
      exact toNat_and_ones (w >>> 5) (k := 3) (by norm_num)
    have hall : t.fcsr.toNat = w.toNat % 2 ^ 8 := hfcsr' ▸ toNat_and_ones w (k := 8) (by norm_num)
    constructor <;> omega
  | misa => exact h.of_sameFpCsr hst

theorem FpCsrInv.csrWrite {s : State} (h : FpCsrInv s) (c : Csr) (w : Word) : FpCsrInv (s.csrWrite c w) :=
  h.csrStored (csrStored_csrWrite c w s)

/-! ### The invariant of a tick boundary (10_state.md R40) -/

/-- The invariant speaks of seven fields: it holds again where four of them are as before, `x[0]` is 0 and the cells agree. -/
theorem State.Inv.of_fields {s t : State} (h : s.Inv) (hcfg : t.cfg = s.cfg) (hmem : t.memory = s.memory) (hx0 : t.x[0] = 0#32)
    (hfp : FpCsrInv t) (hmisa : t.misa = s.misa) (hfault : t.faultFlag = s.faultFlag) : t.Inv where
  cfg := hcfg ▸ h.cfg
  memory := hmem ▸ h.memory
  inRam := by rw [hcfg, hmem]; exact h.inRam
  x0 := hx0
  fpCsr := hfp
  misa := hmisa ▸ h.misa
  faultFlag := hfault ▸ h.faultFlag

theorem State.Inv.setX {s : State} (h : s.Inv) (rd : XReg) (v : Word) : (s.setX rd v).Inv :=
  h.of_fields (setX_cfg ..) (setX_memory ..) ((setX_x_zero s rd v).trans h.x0)
    (h.fpCsr.of_sameFpCsr ⟨setX_fflags .., setX_frm .., setX_fcsr ..⟩) (setX_misa ..) (setX_faultFlag ..)

theorem State.Inv.csrWrite {s : State} (h : s.Inv) (c : Csr) (w : Word) : (s.csrWrite c w).Inv :=
  h.of_fields (csrWrite_cfg ..) (csrWrite_memory ..) (by simpa using h.x0) (h.fpCsr.csrWrite c w) (csrWrite_misa ..)
    (csrWrite_faultFlag ..)

theorem State.Inv.accrue {s : State} (h : s.Inv) (F : FpFlags) : (s.accrue F).Inv :=
  h.of_fields rfl rfl h.x0 (h.fpCsr.accrue F) rfl rfl

/-- A store whose bytes all lie in RAM keeps the canonical form and lists no address outside RAM. -/
theorem State.Inv.store {s : State} (h : s.Inv) {a v : Word} {n : Nat}
    (hin : ∀ i, i < n → Machine.inRam s.cfg (byteAddr a i) = true) :
    ({ s with memory := storeBytes a v s.memory n } : State).Inv where
  cfg := h.cfg
  memory := storeBytes_wf a v s.memory n h.memory
  inRam := fun e he => by
    rcases mem_storeBytes a v s.memory n e he with ⟨i, hi, hei⟩ | he
    · exact hei ▸ hin i hi
    · exact h.inRam e he
  x0 := h.x0
  fpCsr := h.fpCsr.of_sameFpCsr ⟨rfl, rfl, rfl⟩
  misa := h.misa
  faultFlag := h.faultFlag

theorem State.Inv.construct {c : Config} {m : Memory} (hc : c.wf) (hm : Memory.wf m) (hin : ∀ e ∈ m, Machine.inRam c e.1 = true) :
    (State.construct c m).Inv where
  cfg := hc
  memory := hm
  inRam := hin
  x0 := rfl
  fpCsr := ⟨Nat.zero_lt_succ _, Nat.zero_lt_succ _, rfl⟩
  misa := rfl
  faultFlag := rfl

theorem Updates.inv {ram csr : Bool} {s t : State} (h : Updates ram csr s t) (hs : s.Inv) : t.Inv := by
  induction h with
  | refl => exact hs
  | setX rd v _ ih => exact ih.setX rd v
  | accrue F _ ih => exact ih.accrue F
  | csrWrite _ c w _ ih => exact ih.csrWrite c w
  | store _ a v n hin _ ih => exact ih.store hin
  | clearFault _ ih => exact ih.of_fields rfl rfl ih.x0 (ih.fpCsr.of_sameFpCsr ⟨rfl, rfl, rfl⟩) rfl ih.faultFlag.symm
  | setF32 _ _ _ ih | setPc _ _ ih | asked _ _ ih | trapEntry _ _ ih | haltWith _ _ ih =>
    exact ih.of_fields rfl rfl ih.x0 (ih.fpCsr.of_sameFpCsr ⟨rfl, rfl, rfl⟩) rfl rfl

theorem State.Inv.endTick {s : State} (h : s.Inv) : s.endTick.Inv :=
  h.of_fields rfl rfl h.x0 (h.fpCsr.of_sameFpCsr ⟨rfl, rfl, rfl⟩) rfl rfl

end Sys2Proof.Machine
end

section
/-! PROOFS. The obligations about the state (10_state.md). -/

namespace Sys2Proof.Machine

/-- Settles O9: a tick is a sequence of updates, each of which keeps the invariant. -/
theorem everyStepKeepsTheInvariant : Obligations.EveryStepKeepsTheInvariant := by
  intro s t hs hstep
  obtain ⟨ram, csr, u, hupd, rfl | rfl⟩ := step_updates hstep
  · exact hupd.inv hs
  · exact (hupd.inv hs).endTick

/-- Settles O18: no update of a tick touches what is fixed, and counting the cycle does not either. -/
theorem noStepChangesWhatIsFixed : Obligations.NoStepChangesWhatIsFixed := by
  intro s t hstep
  obtain ⟨ram, csr, u, hupd, rfl | rfl⟩ := step_updates hstep <;> obtain ⟨hcfg, hmisa, hpriv, -, hstop, hirq⟩ := hupd.sameFixed
  · exact ⟨hcfg, hmisa, hpriv, hstop, hirq⟩
  · exact ⟨hcfg, hmisa, hpriv, hstop, hirq⟩

/-- Settles O20: without the permission to write RAM no update touches the memory list. -/
theorem onlyStoresWriteRam : Obligations.OnlyStoresWriteRam := by
  intro i s t hstore hexec
  obtain ⟨u, hu, hupd⟩ := exec_endsUpdated i s
  obtain rfl : u = t := by simpa [hu] using hexec
  rw [hstore] at hupd
  exact sameRam_of s u hupd.memory_eq

/-- Settles O7: construction writes every field out; the invariant there is `State.Inv.construct`. -/
theorem constructionLeavesResetValues : Obligations.ConstructionLeavesResetValues := by
  refine ⟨fun c m => ⟨fun r => ?_, fun r => ?_, rfl, rfl, rfl, rfl, rfl, rfl, rfl, rfl, rfl, rfl, rfl, rfl, State.Inv.construct⟩,
    rfl, State.Inv.construct (by decide) List.Pairwise.nil (by simp)⟩
  · simp [State.readX, State.construct]
  · simp [State.readF, State.construct]

end Sys2Proof.Machine
end

section
/-! SUPPORT. The values a load writes, and a load that the callback takes (20_memory.md R65; 41_integer.md R192). -/

namespace Sys2Proof.Machine

/-! ### The low bits of a pattern, extended -/

theorem toNat_low_ofNat {k n : Nat} (hk : k ≤ 32) (hn : n < 2 ^ k) : ((BitVec.ofNat 32 n).extractLsb' 0 k).toNat = n := by
  have hle : 2 ^ k ≤ 2 ^ 32 := Nat.pow_le_pow_right (by norm_num) hk
  rw [BitVec.extractLsb'_toNat, Nat.shiftRight_zero, BitVec.toNat_ofNat, Nat.mod_eq_of_lt (hn.trans_le hle), Nat.mod_eq_of_lt hn]

theorem toInt_eq_signedNat {k : Nat} (hk : 0 < k) (w : BitVec k) : w.toInt = signedNat k w.toNat := by
  obtain ⟨j, rfl⟩ : ∃ j, k = j + 1 := ⟨k - 1, by omega⟩
  have htop : 2 * w.toNat < 2 ^ (j + 1) ↔ w.toNat < 2 ^ j := by rw [pow_succ]; omega
  simp only [BitVec.toInt_eq_toNat_cond, signedNat, Nat.add_sub_cancel, htop, Nat.cast_pow, Nat.cast_ofNat]

/-- Sign-extension of a `k`-bit pattern (R160, R161). -/
theorem signExtend_low {k n : Nat} (hk0 : 0 < k) (hk : k ≤ 32) (hn : n < 2 ^ k) :
    ((BitVec.ofNat 32 n).extractLsb' 0 k).signExtend 32 = trunc32 (signedNat k n) := by
  rw [BitVec.signExtend, toInt_eq_signedNat hk0, toNat_low_ofNat hk hn, trunc32]

/-- Zero-extension of a `k`-bit pattern (R163, R164). -/
theorem setWidth_low {k n : Nat} (hk : k ≤ 32) (hn : n < 2 ^ k) :
    ((BitVec.ofNat 32 n).extractLsb' 0 k).setWidth 32 = trunc32 n := by
  rw [trunc32, BitVec.ofInt_natCast, ← BitVec.ofNat_toNat, toNat_low_ofNat hk hn]

theorem lowBytes_word (v : Word) : lowBytes v AccessType.word.bytes = v := BitVec.and_allOnes

/-! ### Loads that the callback takes -/

variable {s : State}

theorem completesLoadX_loadThen_ext {type : AccessType} {a : Word} (rd : XReg) (extend : Word → Word)
    (h : ServedByExt (readReq a type) s) :
    CompletesLoadX (readReq a type) rd (extend (lowBytes (s.reply (readReq a type)).dataOut type.bytes)) s
      (loadThen type a (fun v => State.setX rd (extend v)) s) := by
  rw [loadThen_ext s type a _ h]
  exact completesLoadX s _ rd _

theorem completesLoadF_loadThen_ext {type : AccessType} {a : Word} (rd : FReg) (h : ServedByExt (readReq a type) s) :
    CompletesLoadF (readReq a type) rd (lowBytes (s.reply (readReq a type)).dataOut type.bytes) s
      (loadThen type a (fun v => State.setF32 rd v) s) := by
  rw [loadThen_ext s type a _ h]
  exact completesLoadF s _ rd _

/-- LB and LH: the low `k` bits of the callback's answer, sign-extended. -/
theorem completesLoadX_signExtend_ext {type : AccessType} {a : Word} {k : Nat} (rd : XReg) (hk0 : 0 < k) (hk : 8 * type.bytes = k)
    (h : ServedByExt (readReq a type) s) :
    CompletesLoadX (readReq a type) rd (trunc32 (signedNat k ((s.reply (readReq a type)).dataOut.toNat % 2 ^ k))) s
      (loadThen type a (fun v => State.setX rd ((v.extractLsb' 0 k).signExtend 32)) s) := by
  have hbytes := accessType_bytes_le type
  have hload := completesLoadX_loadThen_ext rd (fun v => (v.extractLsb' 0 k).signExtend 32) h
  rwa [lowBytes_eq _ _ hbytes, hk, signExtend_low hk0 (by omega) (Nat.mod_lt _ (by positivity))] at hload

/-- LBU and LHU: the low `k` bits of the callback's answer, zero-extended. -/
theorem completesLoadX_setWidth_ext {type : AccessType} {a : Word} {k : Nat} (rd : XReg) (hk : 8 * type.bytes = k)
    (h : ServedByExt (readReq a type) s) :
    CompletesLoadX (readReq a type) rd (trunc32 ((s.reply (readReq a type)).dataOut.toNat % 2 ^ k : Nat)) s
      (loadThen type a (fun v => State.setX rd ((v.extractLsb' 0 k).setWidth 32)) s) := by
  have hbytes := accessType_bytes_le type
  have hload := completesLoadX_loadThen_ext rd (fun v => (v.extractLsb' 0 k).setWidth 32) h
  rwa [lowBytes_eq _ _ hbytes, hk, setWidth_low (by omega) (Nat.mod_lt _ (by positivity))] at hload

theorem readF32_eq_setWidth (s : State) (r : FReg) : s.readF32 r = (s.readF r).setWidth 32 := by
  rw [State.readF32, BitVec.setWidth_eq_extractLsb' (by norm_num)]

end Sys2Proof.Machine
end

section
/-! PROOFS. The obligations about the memory primitives and the callback (20_memory.md). -/

namespace Sys2Proof.Machine

/-- Settles O21: each way an access is served, then the frame of all of them. -/
theorem memReadFollowsItsRule : Obligations.MemReadFollowsItsRule := by
  rintro s a type q rfl
  refine ⟨fun hh hf => ?_, fun hh hf => ?_, fun hh hout => ?_, fun h => ?_, ?_, ?_⟩
  · rw [memRead_fault type a s (.inl ⟨hh, hf⟩)]
  · rw [memRead_ext type a s ⟨hh, hf⟩, lowBytes_eq _ _ (accessType_bytes_le type)]
    rfl
  · rw [memRead_fault type a s (.inr ⟨hh, hout⟩)]
  · rw [memRead_ram type a s h]
  · calc s.leNat a type.bytes < 256 ^ type.bytes := leNat_lt s a _
      _ = 2 ^ (8 * type.bytes) := by rw [pow_mul]; norm_num
  · rcases memRead_cases type a s with ⟨v, h⟩ | h
    · simp [h, State.asked, readReq]
    · simp [h, State.asked, State.flagFault, readReq]

/-- Settles O22: each way an access is served, then the frame of all of them. -/
theorem memWriteFollowsItsRule : Obligations.MemWriteFollowsItsRule := by
  rintro s a v type q hq
  obtain rfl : q = writeReq a v type := by rw [hq, writeReq, lowBytes_eq _ _ (accessType_bytes_le type)]
  refine ⟨fun hh => ?_, fun hh hout => ?_, fun h => ?_, ?_⟩
  · cases hf : (s.reply (writeReq a v type)).fault
    · rw [memWrite_ext type a v s ⟨hh, hf⟩]
      exact ⟨rfl, sameRam_of s _ rfl⟩
    · rw [memWrite_fault type a v s (.inl ⟨hh, hf⟩)]
      exact ⟨rfl, sameRam_of s _ rfl⟩
  · rw [memWrite_fault type a v s (.inr ⟨hh, hout⟩)]
    exact ⟨rfl, sameRam_of s _ rfl⟩
  · rw [memWrite_ram type a v s h]
    exact ⟨rfl, ramWritten_storeBytes a v _ (accessType_bytes_le type) s _ rfl⟩
  · rcases served_cases (writeReq a v type) s with h | h | h
    · simp [memWrite_ext type a v s h, State.asked, ExtAsked]
    · simp [memWrite_ram type a v s h, State.asked, ExtAsked]
    · simp [memWrite_fault type a v s h, State.asked, State.flagFault, ExtAsked]

/-- Settles O30: a load writes the callback's answer as its instruction extends it, a store ends with RAM untouched. -/
theorem callbackAccessesComplete : Obligations.CallbackAccessesComplete := by
  rintro s rd rs1 rs2 fd fs2 imm a d rfl
  have hstore (type : AccessType) (v : Word) := completesStoreExt_storeThen s type (s.effAddr rs1 imm) v
  refine ⟨?_, ?_, ?_, hstore .byte _, hstore .halfword _, hstore .word _, readF32_eq_setWidth s fs2 ▸ hstore .word _⟩
  · rintro h rfl
    exact ⟨completesLoadX_signExtend_ext rd (by norm_num) rfl h, completesLoadX_setWidth_ext rd rfl h⟩
  · rintro h rfl
    exact ⟨completesLoadX_signExtend_ext rd (by norm_num) rfl h, completesLoadX_setWidth_ext rd rfl h⟩
  · rintro h rfl
    have hx := completesLoadX_loadThen_ext rd id h
    have hf := completesLoadF_loadThen_ext fd h
    rw [lowBytes_word] at hx hf
    exact ⟨hx, hf⟩

end Sys2Proof.Machine
end

section
/-! SUPPORT. Each encoding format field by field, and each immediate a format carries (30_encoding.md R91 to R100). -/

namespace Sys2Proof
open BitVec WordField Encode WellFormed

/-- A field above the lowest part of a concatenation is a field of what stands above it. -/
theorem extractLsb'_append_above {v w lo n : Nat} {x : BitVec v} {y : BitVec w} {z : BitVec n}
    (hx : x.extractLsb' (lo - w) n = z) (h : w ≤ lo := by decide) : (x ++ y).extractLsb' lo n = z :=
  (extractLsb'_append_eq_of_le h).trans hx

/-- Adjacent fields of one pattern make one field. -/
theorem append_extractLsb'_below {w lo n k : Nat} {x : BitVec n} {p : BitVec w} (hx : x = p.extractLsb' (lo + k) n) :
    x ++ p.extractLsb' lo k = p.extractLsb' lo (n + k) := by
  rw [hx, extractLsb'_append_extractLsb'_eq_extractLsb' rfl]

/-! ### The fields of each format -/

section Fields
variable (f7 : BitVec 7) (b a d r3 : BitVec 5) (f3 : BitVec 3) (o : BitVec 7) (c : BitVec 12) (imm : Word)

@[simp] theorem fields_iFmt : opcode (iFmt c a f3 d o) = o ∧ rd (iFmt c a f3 d o) = d ∧ funct3 (iFmt c a f3 d o) = f3 ∧
    rs1 (iFmt c a f3 d o) = a ∧ csr (iFmt c a f3 d o) = c := by
  refine ⟨extractLsb'_append_eq_right, ?_, ?_, ?_, ?_⟩
  · refine extractLsb'_append_above ?_
    exact extractLsb'_append_eq_right
  · iterate 2 refine extractLsb'_append_above ?_
    exact extractLsb'_append_eq_right
  · iterate 3 refine extractLsb'_append_above ?_
    exact extractLsb'_append_eq_right
  · iterate 3 refine extractLsb'_append_above ?_
    exact extractLsb'_append_eq_left

@[simp] theorem fields_iImm : opcode (iImm imm a f3 d o) = o ∧ rd (iImm imm a f3 d o) = d ∧
    funct3 (iImm imm a f3 d o) = f3 ∧ rs1 (iImm imm a f3 d o) = a := by
  simp [iImm]

@[simp] theorem fields_rFmt : opcode (rFmt f7 b a f3 d o) = o ∧ rd (rFmt f7 b a f3 d o) = d ∧
    funct3 (rFmt f7 b a f3 d o) = f3 ∧ rs1 (rFmt f7 b a f3 d o) = a ∧ rs2 (rFmt f7 b a f3 d o) = b ∧
    funct7 (rFmt f7 b a f3 d o) = f7 := by
  have hI : rFmt f7 b a f3 d o = iFmt (f7 ++ b) a f3 d o := rfl
  obtain ⟨ho, hd, hf3, ha, -⟩ := fields_iFmt a d f3 o (f7 ++ b)
  rw [← hI] at ho hd hf3 ha
  refine ⟨ho, hd, hf3, ha, ?_, ?_⟩
  · iterate 4 refine extractLsb'_append_above ?_
    exact extractLsb'_append_eq_right
  · iterate 4 refine extractLsb'_append_above ?_
    exact extractLsb'_append_eq_left

@[simp] theorem fields_r4Fmt : opcode (r4Fmt r3 b a f3 d o) = o ∧ rd (r4Fmt r3 b a f3 d o) = d ∧
    funct3 (r4Fmt r3 b a f3 d o) = f3 ∧ rs1 (r4Fmt r3 b a f3 d o) = a ∧ rs2 (r4Fmt r3 b a f3 d o) = b ∧
    fmt (r4Fmt r3 b a f3 d o) = 0b00#2 ∧ rs3 (r4Fmt r3 b a f3 d o) = r3 := by
  have hR : r4Fmt r3 b a f3 d o = rFmt (r3 ++ 0b00#2) b a f3 d o := rfl
  obtain ⟨ho, hd, hf3, ha, hb, -⟩ := fields_rFmt (r3 ++ 0b00#2) b a d f3 o
  rw [← hR] at ho hd hf3 ha hb
  refine ⟨ho, hd, hf3, ha, hb, ?_, ?_⟩
  · iterate 5 refine extractLsb'_append_above ?_
    exact extractLsb'_append_eq_right
  · iterate 5 refine extractLsb'_append_above ?_
    exact extractLsb'_append_eq_left

/-- An S word is an R word whose `funct7` and `rd` fields hold the immediate. -/
theorem sFmt_eq_rFmt : sFmt imm b a f3 o = rFmt (imm.extractLsb' 5 7) b a f3 (imm.extractLsb' 0 5) o := rfl

@[simp] theorem fields_sFmt : opcode (sFmt imm b a f3 o) = o ∧ funct3 (sFmt imm b a f3 o) = f3 ∧
    rs1 (sFmt imm b a f3 o) = a ∧ rs2 (sFmt imm b a f3 o) = b := by
  simp [sFmt_eq_rFmt]

/-- A B word is an R word whose `funct7` and `rd` fields hold the immediate. -/
theorem bFmt_eq_rFmt : bFmt imm b a f3 o =
    rFmt (imm.extractLsb' 12 1 ++ imm.extractLsb' 5 6) b a f3 (imm.extractLsb' 1 4 ++ imm.extractLsb' 11 1) o :=
  congrArg (fun x : BitVec 25 => (x ++ o : BitVec (25 + 7))) append_assoc

@[simp] theorem fields_bFmt : opcode (bFmt imm b a f3 o) = o ∧ funct3 (bFmt imm b a f3 o) = f3 ∧
    rs1 (bFmt imm b a f3 o) = a ∧ rs2 (bFmt imm b a f3 o) = b := by
  simp [bFmt_eq_rFmt]

@[simp] theorem fields_uFmt : opcode (uFmt imm d o) = o ∧ rd (uFmt imm d o) = d :=
  ⟨extractLsb'_append_eq_right, extractLsb'_append_above extractLsb'_append_eq_right⟩

@[simp] theorem fields_jFmt : opcode (jFmt imm d o) = o ∧ rd (jFmt imm d o) = d :=
  ⟨extractLsb'_append_eq_right, extractLsb'_append_above extractLsb'_append_eq_right⟩

@[simp] theorem miscMemBits_append (x : BitVec 25) : miscMemBits (x ++ o : BitVec 32) = x := extractLsb'_append_eq_left

/-! ### The immediate of each format, for the patterns the format can hold -/

variable {imm}

theorem immI_iImm (h : imm12 imm = true) : immI (iImm imm a f3 d o) = imm := by
  have hc : csr (iImm imm a f3 d o) = imm.extractLsb' 0 12 := by simp [iImm]
  exact (congrArg _ hc).trans (eq_of_beq h)

theorem immS_sFmt (h : imm12 imm = true) : immS (sFmt imm b a f3 o) = imm := by
  have hf7 : funct7 (sFmt imm b a f3 o) = imm.extractLsb' 5 7 := by simp [sFmt_eq_rFmt]
  have hd : rd (sFmt imm b a f3 o) = imm.extractLsb' 0 5 := by simp [sFmt_eq_rFmt]
  have happ : imm.extractLsb' 5 7 ++ imm.extractLsb' 0 5 = imm.extractLsb' 0 12 :=
    extractLsb'_append_extractLsb'_eq_extractLsb' rfl
  calc immS (sFmt imm b a f3 o)
    _ = (funct7 (sFmt imm b a f3 o) ++ rd (sFmt imm b a f3 o)).signExtend 32 := rfl
    _ = (imm.extractLsb' 0 12).signExtend 32 := by rw [hf7, hd, happ]
    _ = imm := eq_of_beq h

theorem immU_uFmt (h : upperImm imm = true) : immU (uFmt imm d o) = imm := by
  have h20 : (uFmt imm d o).extractLsb' 12 20 = imm.extractLsb' 12 20 := by
    iterate 2 refine extractLsb'_append_above ?_
    exact extractLsb'_eq_self
  have happ : imm.extractLsb' 12 20 ++ imm.extractLsb' 0 12 = imm.extractLsb' 0 32 :=
    extractLsb'_append_extractLsb'_eq_extractLsb' rfl
  rw [immU, h20, ← eq_of_beq h, happ, extractLsb'_eq_self]

/-- What `branchImm` and `jumpImm` say of a pattern, as equations of fields. -/
theorem even_signExtend {k : Nat} (h : ((imm.extractLsb' 0 k).signExtend 32 == imm && !imm.getLsbD 0) = true) :
    (imm.extractLsb' 0 k).signExtend 32 = imm ∧ imm.extractLsb' 0 1 = 0#1 := by
  obtain ⟨hext, heven⟩ := Bool.and_eq_true_iff.mp h
  refine ⟨eq_of_beq hext, BitVec.eq_of_getElem_eq fun i hi => ?_⟩
  obtain rfl : i = 0 := by omega
  simpa using heven

theorem immB_bFmt (h : branchImm imm = true) : immB (bFmt imm b a f3 o) = imm := by
  obtain ⟨hext, heven⟩ := even_signExtend h
  have h11 : (bFmt imm b a f3 o).extractLsb' 7 1 = imm.extractLsb' 11 1 :=
    extractLsb'_append_above extractLsb'_append_eq_right
  have h1 : (bFmt imm b a f3 o).extractLsb' 8 4 = imm.extractLsb' 1 4 := by
    iterate 2 refine extractLsb'_append_above ?_
    exact extractLsb'_append_eq_right
  have h5 : (bFmt imm b a f3 o).extractLsb' 25 6 = imm.extractLsb' 5 6 := by
    iterate 6 refine extractLsb'_append_above ?_
    exact extractLsb'_append_eq_right
  have h12 : (bFmt imm b a f3 o).extractLsb' 31 1 = imm.extractLsb' 12 1 := by
    iterate 6 refine extractLsb'_append_above ?_
    exact extractLsb'_append_eq_left
  rw [immB, h12, h11, h5, h1, ← heven]
  refine (congrArg (signExtend 32) ?_).trans hext
  iterate 4 refine append_extractLsb'_below ?_
  rfl

theorem immJ_jFmt (h : jumpImm imm = true) : immJ (jFmt imm d o) = imm := by
  obtain ⟨hext, heven⟩ := even_signExtend h
  have h12 : (jFmt imm d o).extractLsb' 12 8 = imm.extractLsb' 12 8 := by
    iterate 2 refine extractLsb'_append_above ?_
    exact extractLsb'_append_eq_right
  have h11 : (jFmt imm d o).extractLsb' 20 1 = imm.extractLsb' 11 1 := by
    iterate 3 refine extractLsb'_append_above ?_
    exact extractLsb'_append_eq_right
  have h1 : (jFmt imm d o).extractLsb' 21 10 = imm.extractLsb' 1 10 := by
    iterate 4 refine extractLsb'_append_above ?_
    exact extractLsb'_append_eq_right
  have h20 : (jFmt imm d o).extractLsb' 31 1 = imm.extractLsb' 20 1 := by
    iterate 4 refine extractLsb'_append_above ?_
    exact extractLsb'_append_eq_left
  rw [immJ, h20, h12, h11, h1, ← heven]
  refine (congrArg (signExtend 32) ?_).trans hext
  iterate 4 refine append_extractLsb'_below ?_
  rfl

end Fields

@[simp] theorem RmField.ofBits_bits (m : RmField) : RmField.ofBits m.bits = some m := by
  cases m with
  | dyn => rfl
  | static m => cases m <;> rfl

end Sys2Proof
end

section
/-! SUPPORT. The decoder inverts the encoder: each field the table walk looks at is the one the format holds. -/

namespace Sys2Proof

theorem decode_encode (i : Instr) (h : i.wf = true) : decode (encode i) = .ok i := by
  cases i with
  | lui rd imm | auipc rd imm => simp [encode, decode, immU_uFmt rd _ h]
  | jal rd imm => simp [encode, decode, immJ_jFmt rd _ h]
  | beq a b imm | bne a b imm | blt a b imm | bge a b imm | bltu a b imm | bgeu a b imm =>
    simp [encode, decode, Decode.branch, immB_bFmt b a _ _ h]
  | jalr d a imm _ | lb d a imm | lh d a imm | lw d a imm | lbu d a imm | lhu d a imm | flw d a imm | addi d a imm
  | slti d a imm | sltiu d a imm | xori d a imm | ori d a imm | andi d a imm =>
    simp [encode, decode, Decode.load, Decode.opImm, Decode.loadFp, immI_iImm a d _ _ h]
  | sb a b imm | sh a b imm | sw a b imm | fsw a b imm =>
    simp [encode, decode, Decode.store, Decode.storeFp, immS_sFmt b a _ _ h]
  | slli | srli | srai => simp [encode, decode, Decode.opImm]
  | add | sub | sll | slt | sltu | xor | srl | sra | or | and
  | mul | mulh | mulhsu | mulhu | div | divu | rem | remu =>
    simp [encode, decode, Decode.op]
  | csrrw | csrrs | csrrc | csrrwi | csrrsi | csrrci => simp [encode, decode, Decode.system]
  | fence => simp [encode, decode, Laws.OpcodeBits.opcode_append]
  | ecall | ebreak => rfl
  | fmaddS | fmsubS | fnmsubS | fnmaddS => simp [encode, decode, Decode.fused, Decode.withRm]
  | faddS | fsubS | fmulS | fdivS | fsqrtS | fcvtWS | fcvtWuS | fcvtSW | fcvtSWu =>
    simp [encode, decode, Decode.opFp, Decode.withRm, Decode.needsRs2Zero]
  | fsgnjS | fsgnjnS | fsgnjxS | fminS | fmaxS | fmvXW | feqS | fltS | fleS | fclassS | fmvWX =>
    simp [encode, decode, Decode.opFp, Decode.needsRs2Zero]

end Sys2Proof
end

section
/-! SUPPORT. Immediates as numbers (30_encoding.md R94 to R98). -/

namespace Sys2Proof
open BitVec WordField Machine

theorem toNat_append_eq_add {m n : Nat} (x : BitVec m) (y : BitVec n) : (x ++ y).toNat = x.toNat * 2 ^ n + y.toNat := by
  rw [toNat_append, ← Nat.shiftLeft_add_eq_or_of_lt y.isLt, Nat.shiftLeft_eq]

/-- An immediate is the signed number of its `k` bits; this fixes its range. -/
theorem toInt_signExtend_word {k : Nat} (x : BitVec k) (hk : 0 < k ∧ k ≤ 32 := by decide) :
    (x.signExtend 32).toInt = signedNat k x.toNat ∧ -2 ^ (k - 1) ≤ (x.signExtend 32).toInt ∧
      (x.signExtend 32).toInt < 2 ^ (k - 1) := by
  rw [toInt_signExtend_of_le hk.2]
  exact ⟨toInt_eq_signedNat hk.1 x, le_toInt x, toInt_lt⟩

theorem signedNat_even {k : Nat} (hk : 0 < k) {n : Nat} (hn : n % 2 = 0) : signedNat k n % 2 = 0 := by
  obtain ⟨j, rfl⟩ : ∃ j, k = j + 1 := ⟨k - 1, by omega⟩
  unfold signedNat
  split
  · omega
  · rw [pow_succ]; omega

theorem immU_eq_and (w : Word) : immU w = w &&& 0xFFFFF000#32 := by
  have hsplit : (w &&& 0xFFFFF000#32).extractLsb' 12 20 ++ (w &&& 0xFFFFF000#32).extractLsb' 0 12 = w &&& 0xFFFFF000#32 :=
    (append_extractLsb'_below rfl).trans extractLsb'_eq_self
  rw [← hsplit, extractLsb'_and, extractLsb'_and, show (0xFFFFF000#32).extractLsb' 12 20 = allOnes 20 from rfl, and_allOnes,
    show (0xFFFFF000#32).extractLsb' 0 12 = 0#12 from rfl, and_zero, immU]

end Sys2Proof
end

section
/-! SUPPORT. The masks of the opcode table as fields, and the table against the walk, both ways (40_decode_dispatch.md R132,
R133). -/

namespace Sys2Proof
open BitVec hiding and_assoc
open WordField

/-! ### Masks as unions of fields -/

/-- The word with ones in the field of `n` bits at `lo`. -/
def fieldMask (lo n : Nat) : Word := (allOnes n).setWidth 32 <<< lo

theorem and_eq_and_iff (w p m : Word) : w &&& m = p &&& m ↔ ∀ i < 32, m.getLsbD i = true → w.getLsbD i = p.getLsbD i := by
  constructor
  · intro h i _ hm
    have hb := congrArg (·.getLsbD i) h
    simpa [hm] using hb
  · intro h
    refine eq_of_getLsbD_eq fun i hi => ?_
    cases hm : m.getLsbD i
    · simp [hm]
    · simp [hm, h i hi hm]

theorem and_or_eq_iff (w p m m' : Word) : w &&& (m ||| m') = p &&& (m ||| m') ↔ w &&& m = p &&& m ∧ w &&& m' = p &&& m' := by
  simp [and_eq_and_iff, or_imp, forall_and]

theorem and_fieldMask_eq_iff {lo n : Nat} (h : lo + n ≤ 32) (w p : Word) :
    w &&& fieldMask lo n = p &&& fieldMask lo n ↔ w.extractLsb' lo n = p.extractLsb' lo n := by
  rw [and_eq_and_iff]
  constructor
  · intro he
    refine eq_of_getLsbD_eq fun i hi => ?_
    have hb := he (lo + i) (by omega) (by simp [fieldMask]; omega)
    simpa [hi] using hb
  · intro he i hi hm
    obtain ⟨hlo, hn⟩ : lo ≤ i ∧ i - lo < n := by
      simp [fieldMask] at hm; omega
    have hb := congrArg (·.getLsbD (i - lo)) he
    simpa [hn, Nat.add_sub_cancel' hlo] using hb

/-! ### A row's fixed bits as fields -/

theorem OpcodeRow.covers_iff (r : OpcodeRow) (w : Word) :
    r.covers w = true ↔ w &&& r.mask = r.pattern ∧ (r.hasRm = true → funct3 w ≠ 5#3 ∧ funct3 w ≠ 6#3) := by
  cases hrm : r.hasRm <;> simp [OpcodeRow.covers, hrm]

/-- A pattern within a mask is what the mask leaves of itself. -/
theorem and_eq_pattern_iff {w p m : Word} (hp : p &&& m = p) : w &&& m = p ↔ w &&& m = p &&& m := by rw [hp]

section Masks
variable {p : Word} (w : Word)

@[simp] theorem and_opcode_mask_iff (hp : p &&& 0x0000007F#32 = p) : w &&& 0x0000007F#32 = p ↔
    opcode w = p.extractLsb' 0 7 := by
  rw [and_eq_pattern_iff hp, show 0x0000007F#32 = fieldMask 0 7 from rfl]
  simp [and_fieldMask_eq_iff, opcode]

@[simp] theorem and_opcode_funct3_mask_iff (hp : p &&& 0x0000707F#32 = p) : w &&& 0x0000707F#32 = p ↔
    opcode w = p.extractLsb' 0 7 ∧ funct3 w = p.extractLsb' 12 3 := by
  rw [and_eq_pattern_iff hp, show 0x0000707F#32 = fieldMask 0 7 ||| fieldMask 12 3 from rfl]
  simp [and_or_eq_iff, and_fieldMask_eq_iff, opcode, funct3]

@[simp] theorem and_opcode_fmt_mask_iff (hp : p &&& 0x0600007F#32 = p) : w &&& 0x0600007F#32 = p ↔
    opcode w = p.extractLsb' 0 7 ∧ fmt w = p.extractLsb' 25 2 := by
  rw [and_eq_pattern_iff hp, show 0x0600007F#32 = fieldMask 0 7 ||| fieldMask 25 2 from rfl]
  simp [and_or_eq_iff, and_fieldMask_eq_iff, opcode, fmt]

@[simp] theorem and_opcode_funct7_mask_iff (hp : p &&& 0xFE00007F#32 = p) : w &&& 0xFE00007F#32 = p ↔
    opcode w = p.extractLsb' 0 7 ∧ funct7 w = p.extractLsb' 25 7 := by
  rw [and_eq_pattern_iff hp, show 0xFE00007F#32 = fieldMask 0 7 ||| fieldMask 25 7 from rfl]
  simp [and_or_eq_iff, and_fieldMask_eq_iff, opcode, funct7]

@[simp] theorem and_opcode_funct3_funct7_mask_iff (hp : p &&& 0xFE00707F#32 = p) : w &&& 0xFE00707F#32 = p ↔
    opcode w = p.extractLsb' 0 7 ∧ funct3 w = p.extractLsb' 12 3 ∧ funct7 w = p.extractLsb' 25 7 := by
  rw [and_eq_pattern_iff hp, show 0xFE00707F#32 = fieldMask 0 7 ||| fieldMask 12 3 ||| fieldMask 25 7 from rfl]
  simp [and_or_eq_iff, and_fieldMask_eq_iff, opcode, funct3, funct7, and_assoc]

@[simp] theorem and_opcode_rs2_funct7_mask_iff (hp : p &&& 0xFFF0007F#32 = p) : w &&& 0xFFF0007F#32 = p ↔
    opcode w = p.extractLsb' 0 7 ∧ rs2 w = p.extractLsb' 20 5 ∧ funct7 w = p.extractLsb' 25 7 := by
  rw [and_eq_pattern_iff hp, show 0xFFF0007F#32 = fieldMask 0 7 ||| fieldMask 20 5 ||| fieldMask 25 7 from rfl]
  simp [and_or_eq_iff, and_fieldMask_eq_iff, opcode, rs2, funct7, and_assoc]

@[simp] theorem and_opcode_funct3_rs2_funct7_mask_iff (hp : p &&& 0xFFF0707F#32 = p) : w &&& 0xFFF0707F#32 = p ↔
    opcode w = p.extractLsb' 0 7 ∧ funct3 w = p.extractLsb' 12 3 ∧ rs2 w = p.extractLsb' 20 5 ∧
      funct7 w = p.extractLsb' 25 7 := by
  rw [and_eq_pattern_iff hp,
    show 0xFFF0707F#32 = fieldMask 0 7 ||| fieldMask 12 3 ||| fieldMask 20 5 ||| fieldMask 25 7 from rfl]
  simp [and_or_eq_iff, and_fieldMask_eq_iff, opcode, funct3, rs2, funct7, and_assoc]

@[simp] theorem and_word_mask_iff : w &&& 0xFFFFFFFF#32 = p ↔ w = p := by
  rw [show 0xFFFFFFFF#32 = allOnes 32 from rfl, and_allOnes]

end Masks

/-! ### The rounding-mode and selector checks of the walk -/

theorem RmField.ofBits_isSome_iff : ∀ b : BitVec 3, (RmField.ofBits b).isSome = true ↔ b ≠ 5#3 ∧ b ≠ 6#3 := by decide

section Walk
variable {w : Word} {i : Instr}

theorem withRm_of_legal (h : funct3 w ≠ 5#3 ∧ funct3 w ≠ 6#3) : ∃ m, ∀ leaf, Decode.withRm w leaf = .ok (leaf m) := by
  obtain ⟨m, hm⟩ := Option.isSome_iff_exists.mp ((RmField.ofBits_isSome_iff _).mpr h)
  exact ⟨m, fun leaf => by rw [Decode.withRm, hm]⟩

theorem withRm_ok {leaf : RmField → Instr} (h : Decode.withRm w leaf = .ok i) :
    (∃ m, i = leaf m) ∧ funct3 w ≠ 5#3 ∧ funct3 w ≠ 6#3 := by
  unfold Decode.withRm at h
  split at h <;> cases h
  next m hm => exact ⟨⟨m, rfl⟩, (RmField.ofBits_isSome_iff _).mp (by rw [hm]; rfl)⟩

theorem needsRs2Zero_ok {leaf : Decoded} (h : Decode.needsRs2Zero w leaf = .ok i) : rs2 w = 0b00000#5 ∧ leaf = .ok i := by
  unfold Decode.needsRs2Zero at h
  split at h
  next hz => exact ⟨hz, h⟩
  next => cases h

theorem fused_ok {leaf : FReg → FReg → FReg → FReg → RmField → Instr} (h : Decode.fused w leaf = .ok i) :
    fmt w = 0b00#2 ∧ (∃ m, i = leaf (rd w) (rs1 w) (rs2 w) (rs3 w) m) ∧ funct3 w ≠ 5#3 ∧ funct3 w ≠ 6#3 := by
  unfold Decode.fused at h
  split at h
  next hf => exact ⟨hf, withRm_ok h⟩
  next => cases h

/-! ### From a row to the walk: the fixed bits of a row lead to its leaf -/

/-- The word decodes to an instruction with the row's mnemonic and format tag. -/
def DecodesTo (w : Word) (r : OpcodeRow) : Prop := ∃ i, decode w = .ok i ∧ i.mnemonic = r.mnemonic ∧ i.format = r.format

/-- A row without a mode: its fixed bits, read as fields, name every cell on the way to its leaf. -/
theorem decodesTo_of_covers_fixed : ∀ r ∈ opcodeTable, r.hasRm = false → r.covers w = true → DecodesTo w r := by
  simp only [opcodeTable, OpcodeTable.base, OpcodeTable.muldiv, OpcodeTable.system, OpcodeTable.float, List.cons_append,
    List.nil_append, List.forall_mem_cons, List.not_mem_nil, false_imp_iff, implies_true, and_true, forall_const,
    Bool.true_eq_false, true_and]
  and_intros
  all_goals
    intro h
    simp [OpcodeRow.covers_iff] at h
    simp only [DecodesTo, decode, Decode.branch, Decode.load, Decode.store, Decode.opImm, Decode.op, Decode.system,
      Decode.loadFp, Decode.storeFp, Decode.opFp, Decode.needsRs2Zero, h]
    exact ⟨_, rfl, rfl, rfl⟩

/-- A row with a mode: its constraint is what the leaf asks of funct3. -/
theorem decodesTo_of_covers_rm : ∀ r ∈ opcodeTable, r.hasRm = true → r.covers w = true → DecodesTo w r := by
  simp only [opcodeTable, OpcodeTable.base, OpcodeTable.muldiv, OpcodeTable.system, OpcodeTable.float, List.cons_append,
    List.nil_append, List.forall_mem_cons, List.not_mem_nil, false_imp_iff, implies_true, and_true, forall_const,
    Bool.false_eq_true, true_and]
  and_intros
  all_goals
    intro h
    obtain ⟨hbits, hrm⟩ := (OpcodeRow.covers_iff _ _).mp h
    obtain ⟨m, hm⟩ := withRm_of_legal (hrm rfl)
    simp at hbits
    simp only [DecodesTo, decode, Decode.fused, Decode.opFp, Decode.needsRs2Zero, hbits, hm]
    exact ⟨_, rfl, rfl, rfl⟩

theorem decodesTo_of_covers {r : OpcodeRow} (hr : r ∈ opcodeTable) (h : r.covers w = true) : DecodesTo w r := by
  cases hrm : r.hasRm
  · exact decodesTo_of_covers_fixed r hr hrm h
  · exact decodesTo_of_covers_rm r hr hrm h

/-! ### From the walk to a row: the cells passed on the way to a leaf are the fixed bits of its row -/

/-- The row with the instruction's mnemonic has its format tag and covers the word. -/
def HasRow (w : Word) (i : Instr) : Prop :=
  ∃ r, opcodeTable.find? (·.mnemonic == i.mnemonic) = some r ∧ r.covers w = true ∧ r.format = i.format

theorem hasRow_of_opFp (ho : opcode w = 0x53#7) (h : Decode.opFp w = .ok i) : HasRow w i := by
  unfold Decode.opFp at h
  split at h
  case h_1 | h_2 | h_3 | h_4 =>
    obtain ⟨⟨m, rfl⟩, hrm⟩ := withRm_ok h
    exact ⟨_, rfl, by simp [OpcodeRow.covers_iff, *], rfl⟩
  case h_5 =>
    obtain ⟨hz, h⟩ := needsRs2Zero_ok h
    obtain ⟨⟨m, rfl⟩, hrm⟩ := withRm_ok h
    exact ⟨_, rfl, by simp [OpcodeRow.covers_iff, *], rfl⟩
  case h_6 | h_7 | h_10 =>
    split at h <;> cases h
    all_goals exact ⟨_, rfl, by simp [OpcodeRow.covers_iff, *], rfl⟩
  case h_8 | h_11 =>
    split at h
    case h_3 => cases h
    all_goals
      obtain ⟨⟨m, rfl⟩, hrm⟩ := withRm_ok h
      exact ⟨_, rfl, by simp [OpcodeRow.covers_iff, *], rfl⟩
  case h_9 | h_12 =>
    split at h <;> try cases h
    all_goals
      obtain ⟨hz, h⟩ := needsRs2Zero_ok h
      cases h
      exact ⟨_, rfl, by simp [OpcodeRow.covers_iff, *], rfl⟩
  case h_13 => cases h

/-- Every leaf of the walk: the cells above it are hypotheses, and they are the fixed bits of the row. -/
theorem hasRow_of_decode (h : decode w = .ok i) : HasRow w i := by
  unfold decode at h
  split at h
  case h_1 | h_2 | h_4 | h_6 | h_7 | h_8 | h_15 | h_18 =>
    simp only [Decode.load, Decode.loadFp, Decode.opImm, Decode.store, Decode.storeFp, Decode.op, Decode.branch,
      Decode.system] at h
    repeat' split at h
    all_goals cases h
    all_goals exact ⟨_, rfl, by simp [OpcodeRow.covers_iff, *], rfl⟩
  case h_10 | h_11 | h_12 | h_13 =>
    obtain ⟨hf, ⟨m, rfl⟩, hrm⟩ := fused_ok h
    exact ⟨_, rfl, by simp [OpcodeRow.covers_iff, *], rfl⟩
  case h_3 | h_5 | h_9 | h_16 | h_17 =>
    cases h
    exact ⟨_, rfl, by simp [OpcodeRow.covers_iff, *], rfl⟩
  case h_14 ho => exact hasRow_of_opFp ho h
  case h_19 => split at h <;> cases h

end Walk

/-! ### What the two directions give -/

theorem opcodeTable_mnemonics_nodup : (opcodeTable.map OpcodeRow.mnemonic).Nodup := by decide

/-- Rows of one word are one row: they have the mnemonic of what the word decodes to. -/
theorem eq_of_covers {w : Word} {r r' : OpcodeRow} (hr : r ∈ opcodeTable) (hr' : r' ∈ opcodeTable) (h : r.covers w = true)
    (h' : r'.covers w = true) : r = r' := by
  obtain ⟨i, hi, hm, -⟩ := decodesTo_of_covers hr h
  obtain ⟨i', hi', hm', -⟩ := decodesTo_of_covers hr' h'
  obtain rfl : i = i' := by simpa [hi] using hi'
  exact List.inj_on_of_nodup_map opcodeTable_mnemonics_nodup hr hr' (hm.symm.trans hm')

theorem exists_row_of_decode {w : Word} {i : Instr} (h : decode w = .ok i) :
    ∃ r ∈ opcodeTable, r.covers w = true ∧ r.mnemonic = i.mnemonic ∧ r.format = i.format := by
  obtain ⟨r, hfind, hcov, hfmt⟩ := hasRow_of_decode h
  have hmn : r.mnemonic = i.mnemonic := by simpa using List.find?_some hfind
  exact ⟨r, List.mem_of_find?_eq_some hfind, hcov, hmn, hfmt⟩

theorem Instr.format_ne_illegal (i : Instr) : i.format ≠ .illegal := by
  cases i <;> exact nofun

theorem Decoded.format_eq_illegal_iff (d : Decoded) : d.format = .illegal ↔ ∃ r, d = .rejected r := by
  cases d with
  | ok i => simp [Decoded.format, i.format_ne_illegal]
  | rejected r => simp [Decoded.format]

theorem decode_format_eq_illegal_iff (w : Word) :
    (decode w).format = .illegal ↔ ∀ r ∈ opcodeTable, r.covers w = false := by
  rw [Decoded.format_eq_illegal_iff]
  constructor
  · rintro ⟨k, hk⟩ r hr
    refine Bool.eq_false_iff.mpr fun h => ?_
    obtain ⟨i, hi, -⟩ := decodesTo_of_covers hr h
    exact nomatch hk.symm.trans hi
  · intro hnone
    cases hd : decode w with
    | rejected k => exact ⟨k, rfl⟩
    | ok i =>
      obtain ⟨r, hr, hcov, -⟩ := exists_row_of_decode hd
      exact absurd hcov (Bool.eq_false_iff.mp (hnone r hr))

theorem decode_rejected_of_lowBits {w : Word} (h : w.extractLsb' 0 2 ≠ 0b11#2) : decode w = .rejected .lowBits := by
  unfold decode
  split
  case h_19 => rw [if_neg h]
  all_goals
    next ho => exact absurd (by rw [Laws.OpcodeBits.low_of_opcode, ho]; rfl) h

end Sys2Proof
end

section
/-! PROOFS. The obligations about encoding and decoding (30_encoding.md, 40_decode_dispatch.md). -/

namespace Sys2Proof
open BitVec WordField

/-- Settles O2: no cell of the primary table ends in other bits than `11`; the listed words are evaluated. -/
theorem unpopulatedCellsAreIllegal : Obligations.UnpopulatedCellsAreIllegal := by
  refine ⟨fun w h => ⟨_, decode_rejected_of_lowBits h⟩, ?_⟩
  simp only [← Decoded.format_eq_illegal_iff]
  exact List.forall_iff_forall_mem.mp (by decide)

/-- Settles O3, by the format of the instruction. -/
theorem decodeOfEncodeIsIdentity : Obligations.DecodeOfEncodeIsIdentity := decode_encode

/-- Settles O5: the walk and the table agree both ways. -/
theorem decodeIsTheOpcodeTable : Obligations.DecodeIsTheOpcodeTable := fun w =>
  ⟨fun _ => exists_row_of_decode, fun _ => decodesTo_of_covers, fun _ hr _ hr' => eq_of_covers hr hr',
    decode_format_eq_illegal_iff w⟩

/-- Settles O6: each immediate is the signed number of a concatenation of fields, and that fixes its range and parity. -/
theorem immediatesAreTheirFields : Obligations.ImmediatesAreTheirFields := by
  intro w
  obtain ⟨hI, hI₁, hI₂⟩ : (immI w).toInt = _ ∧ _ ≤ (immI w).toInt ∧ (immI w).toInt < _ := toInt_signExtend_word _
  obtain ⟨hS, hS₁, hS₂⟩ : (immS w).toInt = _ ∧ _ ≤ (immS w).toInt ∧ (immS w).toInt < _ := toInt_signExtend_word _
  obtain ⟨hB, hB₁, hB₂⟩ : (immB w).toInt = _ ∧ _ ≤ (immB w).toInt ∧ (immB w).toInt < _ := toInt_signExtend_word _
  obtain ⟨hJ, hJ₁, hJ₂⟩ : (immJ w).toInt = _ ∧ _ ≤ (immJ w).toInt ∧ (immJ w).toInt < _ := toInt_signExtend_word _
  simp only [toNat_append_eq_add] at hS hB hJ
  have hBe : (immB w).toInt % 2 = 0 := by rw [hB]; exact signedNat_even (by decide) (by simp)
  have hJe : (immJ w).toInt % 2 = 0 := by rw [hJ]; exact signedNat_even (by decide) (by simp)
  norm_num at hI₁ hI₂ hS₁ hS₂ hB₁ hB₂ hJ₁ hJ₂
  refine ⟨hI, hS, hB.trans ?_, immU_eq_and w, hJ.trans ?_, by omega, by omega, by omega, by omega⟩
  · congr 1; simp; ring
  · congr 1; simp; ring

end Sys2Proof
end

section
/-! SUPPORT. A word is the format word of its own fields, and each immediate of a word fits its format and holds the word's
fields (30_encoding.md R91 to R100). -/

namespace Sys2Proof
open BitVec WordField Encode WellFormed

/-! ### When a format word is the word `w`: its operands are the fields of `w` -/

section Formats
variable {w : Word} {f7 : BitVec 7} {b a d r3 : BitVec 5} {f3 : BitVec 3} {o : BitVec 7} {c : BitVec 12}

@[simp] theorem iFmt_eq_iff : iFmt c a f3 d o = w ↔ csr w = c ∧ rs1 w = a ∧ funct3 w = f3 ∧ rd w = d ∧ opcode w = o := by
  constructor
  · rintro rfl
    simp
  · rintro ⟨rfl, rfl, rfl, rfl, rfl⟩
    refine Eq.trans ?_ (extractLsb'_eq_self (x := w))
    iterate 4 refine append_extractLsb'_below ?_
    rfl

@[simp] theorem rFmt_eq_iff : rFmt f7 b a f3 d o = w ↔
    funct7 w = f7 ∧ rs2 w = b ∧ rs1 w = a ∧ funct3 w = f3 ∧ rd w = d ∧ opcode w = o := by
  constructor
  · rintro rfl
    simp
  · rintro ⟨rfl, rfl, rfl, rfl, rfl, rfl⟩
    refine Eq.trans ?_ (extractLsb'_eq_self (x := w))
    iterate 5 refine append_extractLsb'_below ?_
    rfl

@[simp] theorem r4Fmt_eq_iff : r4Fmt r3 b a f3 d o = w ↔
    rs3 w = r3 ∧ fmt w = 0b00#2 ∧ rs2 w = b ∧ rs1 w = a ∧ funct3 w = f3 ∧ rd w = d ∧ opcode w = o := by
  constructor
  · rintro rfl
    simp
  · rintro ⟨rfl, hfmt, rfl, rfl, rfl, rfl, rfl⟩
    refine Eq.trans ?_ (extractLsb'_eq_self (x := w))
    rw [r4Fmt, ← hfmt]
    iterate 6 refine append_extractLsb'_below ?_
    rfl

end Formats

/-! ### The immediates of a word -/

section Immediates
variable (w : Word) {b a d : BitVec 5} {f3 : BitVec 3} {o : BitVec 7}

/-- A field of a sign extension that lies within the extended pattern is a field of the pattern. -/
theorem extractLsb'_signExtend {k lo n : Nat} {x : BitVec k} {z : BitVec n} (hx : x.extractLsb' lo n = z)
    (h : lo + n ≤ k ∧ k ≤ 32 := by decide) : (x.signExtend 32).extractLsb' lo n = z := by
  rw [← hx]
  refine eq_of_getLsbD_eq fun i hi => ?_
  simp [hi, getElem_signExtend, show lo + i < 32 by omega, show lo + i < k by omega]

theorem imm12_signExtend (x : BitVec 12) : imm12 (x.signExtend 32) = true :=
  beq_iff_eq.mpr (congrArg _ (extractLsb'_signExtend extractLsb'_eq_self))

@[simp] theorem imm12_immI : imm12 (immI w) = true := imm12_signExtend _

@[simp] theorem iImm_immI_eq_iff : iImm (immI w) a f3 d o = w ↔ rs1 w = a ∧ funct3 w = f3 ∧ rd w = d ∧ opcode w = o := by
  have hcsr : (immI w).extractLsb' 0 12 = csr w := extractLsb'_signExtend extractLsb'_eq_self
  simp [iImm, hcsr]

@[simp] theorem imm12_immS : imm12 (immS w) = true := imm12_signExtend _

@[simp] theorem sFmt_immS_eq_iff : sFmt (immS w) b a f3 o = w ↔ rs2 w = b ∧ rs1 w = a ∧ funct3 w = f3 ∧ opcode w = o := by
  have hf7 : (immS w).extractLsb' 5 7 = funct7 w := extractLsb'_signExtend extractLsb'_append_eq_left
  have hrd : (immS w).extractLsb' 0 5 = rd w := extractLsb'_signExtend extractLsb'_append_eq_right
  simp [sFmt_eq_rFmt, hf7, hrd]

/-- A pattern that ends in a zero bit, sign-extended, is an even sign extension. -/
theorem even_signExtend_append {k : Nat} (x : BitVec k) (hk : k + 1 ≤ 32 := by decide) :
    (((x ++ 0#1).signExtend 32).extractLsb' 0 (k + 1)).signExtend 32 == (x ++ 0#1).signExtend 32 &&
      !((x ++ 0#1).signExtend 32).getLsbD 0 := by
  rw [extractLsb'_signExtend extractLsb'_eq_self ⟨by omega, hk⟩]
  simp [getElem_signExtend, getElem_append]

/-- `imm_b` and `imm_j` are four fields above a zero bit, sign-extended (R96, R98): each field stands where the parts below it end. -/
theorem fields_signExtend_even {k l m n : Nat} (x : BitVec k) (y : BitVec l) (u : BitVec m) (v : BitVec n)
    (h : k + l + m + n + 1 ≤ 32 := by decide) :
    ((x ++ y ++ u ++ v ++ 0#1).signExtend 32).extractLsb' (l + m + n + 1) k = x ∧
    ((x ++ y ++ u ++ v ++ 0#1).signExtend 32).extractLsb' (m + n + 1) l = y ∧
    ((x ++ y ++ u ++ v ++ 0#1).signExtend 32).extractLsb' (n + 1) m = u ∧
    ((x ++ y ++ u ++ v ++ 0#1).signExtend 32).extractLsb' 1 n = v := by
  refine ⟨extractLsb'_signExtend ?_ (by omega), extractLsb'_signExtend ?_ (by omega), extractLsb'_signExtend ?_ (by omega),
    extractLsb'_signExtend ?_ (by omega)⟩
  · iterate 3 refine extractLsb'_append_above ?_ (by omega)
    simpa using extractLsb'_append_eq_left
  · iterate 3 refine extractLsb'_append_above ?_ (by omega)
    simpa using extractLsb'_append_eq_right
  · iterate 2 refine extractLsb'_append_above ?_ (by omega)
    simpa using extractLsb'_append_eq_right
  · refine extractLsb'_append_above ?_
    exact extractLsb'_append_eq_right

@[simp] theorem branchImm_immB : branchImm (immB w) = true := even_signExtend_append _

@[simp] theorem bFmt_immB_eq_iff : bFmt (immB w) b a f3 o = w ↔ rs2 w = b ∧ rs1 w = a ∧ funct3 w = f3 ∧ opcode w = o := by
  obtain ⟨h12, h11, h5, h1⟩ : (immB w).extractLsb' 12 1 = _ ∧ (immB w).extractLsb' 11 1 = _ ∧
    (immB w).extractLsb' 5 6 = _ ∧ (immB w).extractLsb' 1 4 = _ := fields_signExtend_even _ _ _ _
  have hf7 : w.extractLsb' 31 1 ++ w.extractLsb' 25 6 = funct7 w := append_extractLsb'_below rfl
  have hrd : w.extractLsb' 8 4 ++ w.extractLsb' 7 1 = rd w := append_extractLsb'_below rfl
  simp [bFmt_eq_rFmt, h12, h11, h5, h1, hf7, hrd]

@[simp] theorem upperImm_immU : upperImm (immU w) = true := beq_iff_eq.mpr extractLsb'_append_eq_right

@[simp] theorem uFmt_immU_eq_iff : uFmt (immU w) d o = w ↔ rd w = d ∧ opcode w = o := by
  have h12 : (immU w).extractLsb' 12 20 = w.extractLsb' 12 20 := extractLsb'_append_eq_left
  constructor
  · intro h
    rw [← h]
    simp
  · rintro ⟨rfl, rfl⟩
    refine Eq.trans ?_ (extractLsb'_eq_self (x := w))
    rw [uFmt, h12]
    iterate 2 refine append_extractLsb'_below ?_
    rfl

@[simp] theorem jumpImm_immJ : jumpImm (immJ w) = true := even_signExtend_append _

@[simp] theorem jFmt_immJ_eq_iff : jFmt (immJ w) d o = w ↔ rd w = d ∧ opcode w = o := by
  obtain ⟨h20, h12, h11, h1⟩ : (immJ w).extractLsb' 20 1 = _ ∧ (immJ w).extractLsb' 12 8 = _ ∧
    (immJ w).extractLsb' 11 1 = _ ∧ (immJ w).extractLsb' 1 10 = _ := fields_signExtend_even _ _ _ _
  constructor
  · intro h
    rw [← h]
    simp
  · rintro ⟨rfl, rfl⟩
    refine Eq.trans ?_ (extractLsb'_eq_self (x := w))
    rw [jFmt, h20, h12, h11, h1]
    iterate 5 refine append_extractLsb'_below ?_
    rfl

@[simp] theorem miscMemBits_append_eq_iff : (miscMemBits w ++ o : BitVec 32) = w ↔ opcode w = o := by
  constructor
  · intro h
    rw [← h]
    exact Laws.OpcodeBits.opcode_append _ _
  · rintro rfl
    exact (append_extractLsb'_below rfl).trans extractLsb'_eq_self

end Immediates

end Sys2Proof
end

section
/-! SUPPORT. The encoder inverts the decoder: at each leaf of the table walk, the leaf's format word is the word walked. -/

namespace Sys2Proof
open WordField

/-- Both functions on rounding modes say the same pairs; the walk tests one, the format holds the other. -/
theorem RmField.eq_bits_iff {b : BitVec 3} {m : RmField} : b = m.bits ↔ RmField.ofBits b = some m := by
  have hbits : ∀ b : BitVec 3, ∀ m ∈ RmField.ofBits b, b = m.bits := by decide
  exact ⟨fun h => h ▸ RmField.ofBits_bits m, hbits b m⟩

/-- At every leaf of the walk the cells passed are hypotheses, and they are what the leaf's format asks of the word. -/
theorem encode_of_decode {w : Word} {i : Instr} (h : decode w = .ok i) : encode i = w ∧ i.wf = true := by
  unfold decode at h
  split at h
  -- An unpopulated cell of the primary table is no instruction.
  case h_19 => split at h <;> cases h
  -- FENCE, AUIPC, LUI, JALR and JAL are leaves of the primary table.
  case h_3 | h_5 | h_9 | h_16 | h_17 =>
    cases h
    simp [encode, Instr.wf, *]
  -- Every other populated cell leads to a subtable.
  all_goals
    simp only [Decode.load, Decode.loadFp, Decode.opImm, Decode.store, Decode.storeFp, Decode.op, Decode.branch,
      Decode.system, Decode.fused, Decode.opFp, Decode.needsRs2Zero, Decode.withRm] at h
    repeat' split at h
    all_goals cases h
    all_goals simp [encode, Instr.wf, RmField.eq_bits_iff, *]

end Sys2Proof
end

section
/-! PROOFS. The obligation about the encoder on what the decoder gives (40_decode_dispatch.md). -/

namespace Sys2Proof

/-- Settles O4, leaf by leaf of the walk. -/
theorem encodeOfDecodeIsIdentity : Obligations.EncodeOfDecodeIsIdentity := fun _ _ => encode_of_decode

end Sys2Proof
end

section
/-! SUPPORT. Word arithmetic as arithmetic of integers modulo 2^32 (00_scope.md R10; 41_integer.md R190). -/

namespace Sys2Proof.Machine

variable (a b : Word)

theorem trunc32_natCast (n : Nat) : trunc32 n = BitVec.ofNat 32 n := BitVec.ofInt_natCast 32 n

@[simp] theorem trunc32_toNat : trunc32 a.toNat = a := by rw [trunc32_natCast, BitVec.ofNat_toNat, BitVec.setWidth_eq]

theorem trunc32_add (m n : Int) : trunc32 (m + n) = trunc32 m + trunc32 n := BitVec.ofInt_add m n

theorem add_eq_trunc32 : a + b = trunc32 (a.toNat + b.toNat) := by simp [trunc32_add]

/-- `pc <- trunc32(pc + 4)` (10_state.md R24). -/
theorem add_four_eq_trunc32 : a + 4#32 = trunc32 (a.toNat + 4) := add_eq_trunc32 a 4#32

/-- Adding `b` back to the difference gives `a`. -/
theorem sub_eq_trunc32 : a - b = trunc32 (a.toNat - b.toNat) := by
  rw [sub_eq_iff_eq_add]
  calc a = trunc32 (a.toNat - b.toNat + b.toNat) := by simp
    _ = trunc32 (a.toNat - b.toNat) + b := by rw [trunc32_add, trunc32_toNat]

/-! ### Upper immediates (30_encoding.md R97) -/

theorem mod_eq_zero_of_upperImm {imm : Word} (h : WellFormed.upperImm imm = true) : imm.toNat % 4096 = 0 := by
  have hlow := congrArg BitVec.toNat (eq_of_beq h)
  rwa [BitVec.extractLsb'_toNat, Nat.shiftRight_zero] at hlow

/-! ### Shifts (R174 to R176, R179, R183, R184) -/

theorem shiftLeft_eq_trunc32 (k : Nat) : a <<< k = trunc32 (a.toNat * 2 ^ k : Nat) := by
  rw [trunc32_natCast, ← Nat.shiftLeft_eq]
  rfl

theorem ushiftRight_eq_trunc32 (k : Nat) : a >>> k = trunc32 (a.toNat / 2 ^ k : Nat) := by
  rw [← Nat.shiftRight_eq_div_pow, ← BitVec.toNat_ushiftRight, trunc32_toNat]

theorem sshiftRight_eq_trunc32 (k : Nat) : a.sshiftRight k = trunc32 (a.toInt / 2 ^ k) := by
  rw [BitVec.sshiftRight, Int.shiftRight_eq_div_pow, Nat.cast_pow, Nat.cast_ofNat, trunc32]

/-- A register count is its value modulo 32 (R190 (3)). -/
theorem shiftCount_eq_mod : shiftCount a = a.toNat % 32 := by
  rw [shiftCount, BitVec.extractLsb'_toNat, Nat.shiftRight_zero]

/-! ### Comparisons as a choice between two patterns -/

theorem ite_slt (x y : Word) : (if a.slt b then x else y) = if a.toInt < b.toInt then x else y :=
  if_congr BitVec.slt_iff_toInt_lt rfl rfl

theorem ult_iff_toNat_lt : a.ult b = true ↔ a.toNat < b.toNat := BitVec.ult_iff_lt

theorem ite_ult (x y : Word) : (if a.ult b then x else y) = if a.toNat < b.toNat then x else y :=
  if_congr (ult_iff_toNat_lt a b) rfl rfl

theorem not_slt_iff_toInt_ge : (!a.slt b) = true ↔ a.toInt ≥ b.toInt := by simp [BitVec.slt_eq_decide]

theorem not_ult_iff_toNat_ge : (!a.ult b) = true ↔ a.toNat ≥ b.toNat := by simp [BitVec.ult_eq_decide]

theorem beq_iff_toNat_eq : (a == b) = true ↔ a.toNat = b.toNat := by rw [beq_iff_eq, BitVec.toNat_inj]

theorem bne_iff_toNat_ne : (a != b) = true ↔ ¬ a.toNat = b.toNat := by rw [bne_iff_ne, ne_eq, BitVec.toNat_inj]

end Sys2Proof.Machine
end

section
/-! SUPPORT. How integer instructions end, with targets, addresses and values as integers modulo 2^32 (41_integer.md R191 to R193). -/

namespace Sys2Proof.Machine

variable (s : State)

/-! ### Register writes and branches -/

/-- A register write of `w`, whatever term computes it. -/
theorem completesX_writeX_of_eq (rd : XReg) {v w : Word} (h : v = w) :
    CompletesX (trunc32 (s.pc.toNat + 4)) rd w s (writeX rd v s) := by
  rw [← h, ← add_four_eq_trunc32]
  exact completesX_writeX s rd v

theorem completesPc_advance : CompletesPc (trunc32 (s.pc.toNat + 4)) s (.next s.advance) := by
  rw [← add_four_eq_trunc32]
  exact completesPc_next s _

theorem writeX_zero (v : Word) : writeX 0#5 v s = .next s.advance := by simp [writeX, State.setX]

theorem completesPc_writeX_zero (v : Word) : CompletesPc (trunc32 (s.pc.toNat + 4)) s (writeX 0#5 v s) := by
  rw [writeX_zero]
  exact completesPc_advance s

/-- A branch on a test that decides `c` goes to one of the two targets of R191. -/
theorem completesPc_branchIf_of_iff (offset : Word) {c : Prop} [Decidable c] {taken : Bool} (h : taken = true ↔ c) :
    CompletesPc (if c then trunc32 (s.pc.toNat + offset.toNat) else trunc32 (s.pc.toNat + 4)) s (branchIf taken offset s) := by
  rw [← add_eq_trunc32, ← add_four_eq_trunc32, ← if_congr h rfl rfl]
  exact completesPc_branchIf s taken offset

/-! ### Loads from RAM -/

theorem effAddr_eq_trunc32 (rs1 : XReg) (imm : Word) : s.effAddr rs1 imm = trunc32 ((s.readX rs1).toNat + imm.toNat) :=
  add_eq_trunc32 _ imm

theorem leNat_lt_two_pow (a : Word) (n : Nat) : s.leNat a n < 2 ^ (8 * n) := by
  rw [pow_mul]
  exact leNat_lt s a n

variable {s} {type : AccessType} {a : Word} {k : Nat}

theorem completesLoadX_loadThen_ram (rd : XReg) (extend : Word → Word) (h : ServedByRam (readReq a type) s) :
    CompletesLoadX (readReq a type) rd (extend (BitVec.ofNat 32 (s.leNat a type.bytes))) s
      (loadThen type a (fun v => State.setX rd (extend v)) s) := by
  rw [loadThen_ram s type a _ h]
  exact completesLoadX s _ rd _

/-- LB and LH: the bytes in RAM, sign-extended. -/
theorem completesLoadX_signExtend_ram (rd : XReg) (hk0 : 0 < k) (hk : 8 * type.bytes = k) (h : ServedByRam (readReq a type) s) :
    CompletesLoadX (readReq a type) rd (trunc32 (signedNat k (s.leNat a type.bytes))) s
      (loadThen type a (fun v => State.setX rd ((v.extractLsb' 0 k).signExtend 32)) s) := by
  have hbytes := accessType_bytes_le type
  have hload := completesLoadX_loadThen_ram rd (fun v => (v.extractLsb' 0 k).signExtend 32) h
  rwa [signExtend_low hk0 (by omega) (hk ▸ leNat_lt_two_pow s a _)] at hload

/-- LBU and LHU: the bytes in RAM, zero-extended. -/
theorem completesLoadX_setWidth_ram (rd : XReg) (hk : 8 * type.bytes = k) (h : ServedByRam (readReq a type) s) :
    CompletesLoadX (readReq a type) rd (trunc32 (s.leNat a type.bytes)) s
      (loadThen type a (fun v => State.setX rd ((v.extractLsb' 0 k).setWidth 32)) s) := by
  have hbytes := accessType_bytes_le type
  have hload := completesLoadX_loadThen_ram rd (fun v => (v.extractLsb' 0 k).setWidth 32) h
  rwa [setWidth_low (by omega) (hk ▸ leNat_lt_two_pow s a _)] at hload

/-- LW: the bytes in RAM as they are. -/
theorem completesLoadX_unextended_ram (rd : XReg) (h : ServedByRam (readReq a type) s) :
    CompletesLoadX (readReq a type) rd (trunc32 (s.leNat a type.bytes)) s (loadThen type a (fun v => State.setX rd v) s) := by
  rw [trunc32_natCast]
  exact completesLoadX_loadThen_ram rd id h

/-- FLW: the bytes in RAM as they are. -/
theorem completesLoadF_loadThen_ram (rd : FReg) (h : ServedByRam (readReq a type) s) :
    CompletesLoadF (readReq a type) rd (trunc32 (s.leNat a type.bytes)) s (loadThen type a (fun v => State.setF32 rd v) s) := by
  rw [loadThen_ram s type a _ h, trunc32_natCast]
  exact completesLoadF s _ rd _

end Sys2Proof.Machine
end

section
/-! PROOFS. The obligations about the integer instructions: upper immediates, branches, loads, stores, ALU (41_integer.md). -/

namespace Sys2Proof.Machine

/-- Settles O24: both write a register, and their words are U words. -/
theorem luiAndAuipcComplete : Obligations.LuiAndAuipcComplete := by
  intro s rd imm
  refine ⟨completesX_writeX_of_eq s rd rfl, completesX_writeX_of_eq s rd (add_eq_trunc32 _ _), ?_, ?_, mod_eq_zero_of_upperImm⟩
  · simp [encode]
  · simp [encode]

/-- Settles O26: each test of the machine decides the comparison of the numbers. -/
theorem branchesCompareAndJump : Obligations.BranchesCompareAndJump := by
  rintro s rs1 rs2 imm taken fallThrough rfl rfl
  refine ⟨completesPc_branchIf_of_iff s imm (beq_iff_toNat_eq _ _), ?bne,
    completesPc_branchIf_of_iff s imm BitVec.slt_iff_toInt_lt, completesPc_branchIf_of_iff s imm (not_slt_iff_toInt_ge _ _),
    completesPc_branchIf_of_iff s imm (ult_iff_toNat_lt _ _), completesPc_branchIf_of_iff s imm (not_ult_iff_toNat_ge _ _)⟩
  case bne =>
    rw [← ite_not]
    exact completesPc_branchIf_of_iff s imm (bne_iff_toNat_ne _ _)

/-- Settles O27: a load writes the number of the bytes as its instruction extends it. -/
theorem loadsFromRamComplete : Obligations.LoadsFromRamComplete := by
  intro s rd rs1 fd imm a ha
  obtain rfl : s.effAddr rs1 imm = a := (effAddr_eq_trunc32 s rs1 imm).trans ha.symm
  exact ⟨fun h => ⟨completesLoadX_signExtend_ram rd (by norm_num) rfl h, completesLoadX_setWidth_ram rd rfl h⟩,
    fun h => ⟨completesLoadX_signExtend_ram rd (by norm_num) rfl h, completesLoadX_setWidth_ram rd rfl h⟩,
    fun h => ⟨completesLoadX_unextended_ram rd h, completesLoadF_loadThen_ram fd h⟩⟩

/-- Settles O29: every store is `storeThen` at its effective address. -/
theorem storesToRamComplete : Obligations.StoresToRamComplete := by
  rintro s rs1 rs2 fs2 imm a rfl
  have hstore (type : AccessType) (v : Word) := completesStore_storeThen s type (s.effAddr rs1 imm) v
  exact ⟨effAddr_eq_trunc32 s rs1 imm, hstore .byte _, hstore .halfword _, hstore .word _,
    readF32_eq_setWidth s fs2 ▸ hstore .word _⟩

/-- Settles O32: each writes a register; the no-op writes register 0. -/
theorem aluImmediatesComplete : Obligations.AluImmediatesComplete := by
  rintro s rd rs1 imm next rfl
  refine ⟨completesX_writeX_of_eq s rd (add_eq_trunc32 _ _), completesX_writeX_of_eq s rd (ite_slt _ _ _ _),
    completesX_writeX_of_eq s rd (ite_ult _ _ _ _), completesX_writeX_of_eq s rd rfl, completesX_writeX_of_eq s rd rfl,
    completesX_writeX_of_eq s rd rfl, ?_, ?_, ?_, ?_, ?_, ?_, by decide, completesPc_writeX_zero s _⟩
  -- The words: a mask keeps the fields that the format holds.
  all_goals simp [encode]

/-- Settles O33: each shift writes a product or a quotient by the power of two of its count. -/
theorem shiftsComplete : Obligations.ShiftsComplete := by
  rintro s rd rs1 rs2 shamt next k rfl rfl
  rw [← shiftCount_eq_mod]
  refine ⟨completesX_writeX_of_eq s rd (shiftLeft_eq_trunc32 _ _), completesX_writeX_of_eq s rd (ushiftRight_eq_trunc32 _ _),
    completesX_writeX_of_eq s rd (sshiftRight_eq_trunc32 _ _), completesX_writeX_of_eq s rd (shiftLeft_eq_trunc32 _ _),
    completesX_writeX_of_eq s rd (ushiftRight_eq_trunc32 _ _), completesX_writeX_of_eq s rd (sshiftRight_eq_trunc32 _ _),
    ?_, ?_, ?_, ?_, ?_, ?_⟩
  -- The words: a mask keeps the fields that the format holds.
  all_goals simp [encode]

/-- Settles O34: each writes a register, and their words are R words. -/
theorem aluRegistersComplete : Obligations.AluRegistersComplete := by
  rintro s rd rs1 rs2 next rfl
  refine ⟨completesX_writeX_of_eq s rd (add_eq_trunc32 _ _), completesX_writeX_of_eq s rd (sub_eq_trunc32 _ _),
    completesX_writeX_of_eq s rd (ite_slt _ _ _ _), completesX_writeX_of_eq s rd (ite_ult _ _ _ _),
    completesX_writeX_of_eq s rd rfl, completesX_writeX_of_eq s rd rfl, completesX_writeX_of_eq s rd rfl,
    ?_, ?_, ?_, ?_, ?_, ?_, ?_⟩
  -- The words: a mask keeps the fields that the format holds.
  all_goals simp [encode]

end Sys2Proof.Machine
end

section
/-! SUPPORT. Products, quotients and remainders as integers modulo 2^32 (42_muldiv.md R220). -/

namespace Sys2Proof.Machine

variable (a b : Word)

theorem trunc32_toInt : trunc32 a.toInt = a := BitVec.ofInt_toInt

theorem trunc32_mul (m n : Int) : trunc32 (m * n) = trunc32 m * trunc32 n := BitVec.ofInt_mul m n

/-- The low word does not depend on how the operands are read (R210): modulo 2^32 both readings are the word itself. -/
theorem trunc32_toInt_mul_eq_toNat_mul : trunc32 (a.toInt * b.toInt) = trunc32 (a.toNat * b.toNat) := by
  calc trunc32 (a.toInt * b.toInt) = a * b := by rw [trunc32_mul, trunc32_toInt, trunc32_toInt]
    _ = trunc32 (a.toNat * b.toNat) := by rw [trunc32_mul, trunc32_toNat, trunc32_toNat]

/-- Rounding down is the integer division of the statements, because 2^32 is positive. -/
theorem mulHigh_eq_trunc32 (m n : Int) : mulHigh m n = trunc32 (m * n / 2 ^ 32) := by
  rw [mulHigh, Int.fdiv_eq_ediv_of_nonneg _ (by norm_num), trunc32]

theorem mulHigh_natCast (m n : Nat) : mulHigh m n = trunc32 (m * n / 2 ^ 32 : Nat) := by
  rw [mulHigh_eq_trunc32]
  norm_cast

theorem divUnsigned_eq_trunc32 :
    divUnsigned a b = if b.toNat = 0 then 0xFFFFFFFF#32 else trunc32 (a.toNat / b.toNat : Nat) := by
  rw [divUnsigned, trunc32_natCast]

theorem remUnsigned_eq_trunc32 : remUnsigned a b = if b.toNat = 0 then a else trunc32 (a.toNat % b.toNat : Nat) := by
  rw [remUnsigned, trunc32_natCast]

end Sys2Proof.Machine
end

section
/-! PROOFS. The obligations about the multiplier and the unsigned divider (42_muldiv.md). -/

namespace Sys2Proof.Machine

/-- Settles O36: each writes a word of a product, and the low word is the product of the words. -/
theorem multipliesComplete : Obligations.MultipliesComplete := by
  rintro s rd rs1 rs2 next rfl
  refine ⟨completesX_writeX_of_eq s rd rfl, completesX_writeX_of_eq s rd (mulHigh_eq_trunc32 _ _),
    completesX_writeX_of_eq s rd (mulHigh_natCast _ _), trunc32_toInt_mul_eq_toNat_mul, ?_, ?_, ?_⟩
  -- The words: a mask keeps the fields that the format holds.
  all_goals simp [encode]

/-- Settles O37: each writes a quotient or a remainder of the numbers, with the zero divisor apart. -/
theorem unsignedDividesComplete : Obligations.UnsignedDividesComplete := by
  rintro s rd rs1 rs2 next a b rfl rfl rfl
  refine ⟨completesX_writeX_of_eq s rd (divUnsigned_eq_trunc32 _ _), completesX_writeX_of_eq s rd (remUnsigned_eq_trunc32 _ _),
    ?_, ?_⟩
  -- The words: a mask keeps the fields that the format holds.
  all_goals simp [encode]

end Sys2Proof.Machine
end

section
/-! SUPPORT. Without a CSR write the flags only accumulate and the rounding mode stays (10_state.md R29; 44_fp_numerics.md R275). -/

namespace Sys2Proof.Machine

theorem or_and_eq_of_and_eq {w old : Word} (h : w &&& old = old) (v : Word) : (w ||| v) &&& old = old := by
  rw [BitVec.and_or_distrib_right, h]
  ext i
  simp

/-- A flag that is set stays set, in FFLAGS and in FCSR, and FRM is as before: `accrue` alone touches the three cells. -/
theorem Updates.flags_kept {ram : Bool} {s t : State} (h : Updates ram false s t) :
    t.frm = s.frm ∧ t.fflags &&& s.fflags = s.fflags ∧ t.fcsr &&& s.fcsr = s.fcsr := by
  induction h with
  | refl => exact ⟨rfl, BitVec.and_self, BitVec.and_self⟩
  | setX _ _ _ ih => simpa using ih
  | accrue F _ ih =>
    obtain ⟨hfrm, hflags, hfcsr⟩ := ih
    exact ⟨hfrm, or_and_eq_of_and_eq hflags F.bits, or_and_eq_of_and_eq hfcsr F.bits⟩
  | csrWrite hcsr => exact absurd hcsr Bool.false_ne_true
  | setF32 _ _ _ ih | setPc _ _ ih | asked _ _ ih | clearFault _ ih | trapEntry _ _ ih | haltWith _ _ ih | store _ _ _ _ _ _ ih =>
    exact ih

end Sys2Proof.Machine
end

section
/-! PROOFS. The obligations about the CSR instructions (43_csr.md). -/

namespace Sys2Proof.Machine

/-- Settles O19: without the permission to write a CSR every update keeps the flags that are set. -/
theorem onlyCsrInstructionsClearFlags : Obligations.OnlyCsrInstructionsClearFlags := by
  intro i s t hcsr hexec
  obtain ⟨u, hu, hupd⟩ := exec_endsUpdated i s
  obtain rfl : u = t := by simpa [hu] using hexec
  rw [hcsr] at hupd
  exact hupd.flags_kept

/-- Settles O40: the six forms are `csrAccess` with six new values; the immediate forms zero-extend `uimm`. -/
theorem csrInstructionsComplete : Obligations.CsrInstructionsComplete := by
  intro s rd rs1 uimm addr c hc
  have haccess (new : Word → Option Word) := completesCsr_csrAccess s rd addr new c hc
  rw [BitVec.ofNat_toNat]
  exact ⟨haccess fun _ => some (s.readX rs1),
    haccess fun old => if rs1 = 0#5 then none else some (old ||| s.readX rs1),
    haccess fun old => if rs1 = 0#5 then none else some (old &&& ~~~s.readX rs1),
    haccess fun _ => some (zextUimm uimm),
    haccess fun old => if uimm = 0#5 then none else some (old ||| zextUimm uimm),
    haccess fun old => if uimm = 0#5 then none else some (old &&& ~~~zextUimm uimm)⟩

end Sys2Proof.Machine
end

section
/-! SUPPORT. A pattern of 44_fp_numerics.md R260 as a sign and a code, the number of its other 31 bits: classes are ranges of codes. -/

namespace Sys2Proof.Machine.Fp

variable (a b : Word)

/-- The pattern without its sign bit, as a number. -/
def code : Nat := a.toNat % 2 ^ 31

theorem code_lt : code a < 2 ^ 31 := Nat.mod_lt _ (by norm_num)

theorem toNat_and_low31 : (a &&& 0x7FFFFFFF#32).toNat = code a := toNat_and_ones a (k := 31) (by norm_num)

theorem toNat_eq_sign_code : a.toNat = (if sign a then 2 ^ 31 else 0) + code a := by
  have hsign : sign a = decide (2 ^ 31 ≤ a.toNat) := BitVec.msb_eq_decide a
  have hlt := a.isLt
  rw [hsign, code]
  split <;> simp_all <;> omega

theorem eq_of_sign_code {a b : Word} (hs : sign a = sign b) (hc : code a = code b) : a = b :=
  BitVec.eq_of_toNat_eq (by rw [toNat_eq_sign_code a, toNat_eq_sign_code b, hs, hc])

/-! ### Classes (R261) -/

theorem toNat_frac : (frac a).toNat = code a % 2 ^ 23 := by
  simp [frac, code, BitVec.extractLsb'_toNat]

theorem toNat_expo : (expo a).toNat = code a / 2 ^ 23 := by
  have hlt := a.isLt
  simp only [expo, code, BitVec.extractLsb'_toNat, Nat.shiftRight_eq_div_pow]
  omega

theorem isNaN_eq : isNaN a = decide (0x7F800000 < code a) := by
  have hlt := code_lt a
  have hfrac := toNat_frac a
  have hexpo := toNat_expo a
  rw [Bool.eq_iff_iff]
  simp [isNaN, ← BitVec.toNat_inj, hfrac, hexpo]
  omega

theorem isInf_eq : isInf a = decide (code a = 0x7F800000) := by
  rw [isInf, ← toNat_and_low31, Bool.eq_iff_iff, beq_iff_eq, decide_eq_true_iff, ← BitVec.toNat_inj, BitVec.toNat_ofNat]

theorem isZero_eq : isZero a = decide (code a = 0) := by
  rw [isZero, ← toNat_and_low31, Bool.eq_iff_iff, beq_iff_eq, decide_eq_true_iff, ← BitVec.toNat_inj, BitVec.toNat_ofNat]

theorem isSub_eq : isSub a = decide (0 < code a ∧ code a < 2 ^ 23) := by
  have hfrac := toNat_frac a
  have hexpo := toNat_expo a
  rw [Bool.eq_iff_iff]
  simp [isSub, ← BitVec.toNat_inj, hfrac, hexpo]
  omega

theorem isSNaN_eq : isSNaN a = decide (0x7F800000 < code a ∧ code a < 0x7FC00000) := by
  have hquiet : a.getLsbD 22 = decide (code a / 2 ^ 22 % 2 = 1) := by
    rw [BitVec.getLsbD, Nat.testBit_eq_decide_div_mod_eq, code, decide_eq_decide]
    omega
  have hlt := code_lt a
  rw [isSNaN, isNaN_eq, hquiet, Bool.eq_iff_iff]
  simp
  omega

/-! ### Values (R260) -/

/-- The magnitude, in units of `2^-149`, of the finite pattern with code `c`. -/
def magOfCode (c : Nat) : Nat := if c < 2 ^ 23 then c else (2 ^ 23 + c % 2 ^ 23) * 2 ^ (c / 2 ^ 23 - 1)

theorem mag_eq : mag a = magOfCode (code a) := by
  have hzero : expo a = 0#8 ↔ code a < 2 ^ 23 := by
    rw [← BitVec.toNat_inj, toNat_expo, BitVec.toNat_ofNat]
    omega
  simp only [mag, magOfCode, hzero, toNat_frac, toNat_expo]
  split
  · exact Nat.mod_eq_of_lt ‹_›
  · rfl

/-- The significand `n`, the hidden bit included, at the exponent field `j + 1`; also below the hidden bit, and at the carry out of the
significand. -/
theorem magOfCode_significand {j n : Nat} (hn : n ≤ 2 ^ 24) (hj : j = 0 ∨ 2 ^ 23 ≤ n) : magOfCode (j * 2 ^ 23 + n) = n * 2 ^ j := by
  obtain hsub | hnorm := Nat.lt_or_ge n (2 ^ 23)
  · obtain rfl : j = 0 := by omega
    rw [Nat.zero_mul, Nat.zero_add, magOfCode, if_pos hsub, pow_zero, Nat.mul_one]
  · obtain hlt | rfl := Nat.lt_or_eq_of_le hn
    · have hdiv : (j * 2 ^ 23 + n) / 2 ^ 23 = j + 1 := by omega
      have hmod : (j * 2 ^ 23 + n) % 2 ^ 23 = n - 2 ^ 23 := by omega
      rw [magOfCode, if_neg (by omega), hdiv, hmod, Nat.add_sub_cancel' hnorm, Nat.add_sub_cancel]
    · have hdiv : (j * 2 ^ 23 + 2 ^ 24) / 2 ^ 23 = j + 2 := by omega
      have hmod : (j * 2 ^ 23 + 2 ^ 24) % 2 ^ 23 = 0 := by omega
      rw [magOfCode, if_neg (by omega), hdiv, hmod, Nat.add_succ_sub_one]
      ring

/-- The next code is one unit in the last place up, across the end of a binade as within it. -/
theorem magOfCode_lt_succ (c : Nat) : magOfCode c < magOfCode (c + 1) := by
  obtain hsub | hnorm := Nat.lt_or_ge c (2 ^ 23)
  · have h0 := magOfCode_significand (j := 0) (n := c) (by omega) (.inl rfl)
    have h1 := magOfCode_significand (j := 0) (n := c + 1) (by omega) (.inl rfl)
    simp_all
  · obtain ⟨j, n, hc, hlo, hhi⟩ : ∃ j n, c = j * 2 ^ 23 + n ∧ 2 ^ 23 ≤ n ∧ n < 2 ^ 24 :=
      ⟨c / 2 ^ 23 - 1, c % 2 ^ 23 + 2 ^ 23, by omega, by omega, by omega⟩
    rw [hc, Nat.add_assoc, magOfCode_significand hhi.le (.inr hlo), magOfCode_significand hhi (.inr (by omega))]
    exact Nat.mul_lt_mul_of_pos_right (Nat.lt_succ_self n) (by positivity)

theorem magOfCode_strictMono : StrictMono magOfCode := strictMono_nat_of_lt_succ magOfCode_lt_succ

theorem mag_eq_zero_iff : mag a = 0 ↔ isZero a = true := by
  rw [mag_eq, isZero_eq, decide_eq_true_iff]
  exact magOfCode_strictMono.injective.eq_iff (b := 0)

/-! ### The pattern of a sign and a code -/

theorem toNat_signBit_or (s : Bool) {c : Nat} (hc : c < 2 ^ 31) :
    (signBit s ||| BitVec.ofNat 32 c).toNat = (if s then 2 ^ 31 else 0) + c := by
  rw [BitVec.toNat_or, BitVec.toNat_ofNat, Nat.mod_eq_of_lt (by omega)]
  cases s with
  | false => simp [signBit]
  | true => exact (Nat.two_pow_add_eq_or_of_lt hc 1).symm

theorem sign_code_signBit_or (s : Bool) {c : Nat} (hc : c < 2 ^ 31) :
    sign (signBit s ||| BitVec.ofNat 32 c) = s ∧ code (signBit s ||| BitVec.ofNat 32 c) = c := by
  have h := toNat_signBit_or s hc
  have hsplit := toNat_eq_sign_code (signBit s ||| BitVec.ofNat 32 c)
  have hlt := code_lt (signBit s ||| BitVec.ofNat 32 c)
  rw [h] at hsplit
  cases hs : sign (signBit s ||| BitVec.ofNat 32 c) <;> cases s <;> simp [hs] at hsplit ⊢ <;> omega

theorem sign_signBit_or (s : Bool) {c : Nat} (hc : c < 2 ^ 31) : sign (signBit s ||| BitVec.ofNat 32 c) = s :=
  (sign_code_signBit_or s hc).1

theorem code_signBit_or (s : Bool) {c : Nat} (hc : c < 2 ^ 31) : code (signBit s ||| BitVec.ofNat 32 c) = c :=
  (sign_code_signBit_or s hc).2

end Sys2Proof.Machine.Fp
end

section
/-! SUPPORT. Rounding as comparisons (44_fp_numerics.md R264 to R266): `roundInt` by the thresholds of its directions, and `round32` by
the code of its result and by the magnitude rounded to 24 bits. -/

namespace Sys2Proof.Machine.Fp

/-! ### Exact values -/

/-- The rational a fraction stands for. -/
def Frac.val (x : Frac) : ℚ := x.num / x.den

theorem Frac.den_scale_pos {x : Frac} (hden : 0 < x.den) (k : Int) : 0 < (x.scale k).den := by
  cases k with
  | ofNat n => exact hden
  | negSucc n => exact Nat.mul_pos hden (by positivity)

theorem Frac.val_scale (x : Frac) (k : Int) : (x.scale k).val = x.val * 2 ^ k := by
  cases k with
  | ofNat n => simp [Frac.val, Frac.scale, div_mul_eq_mul_div]
  | negSucc n => simp [Frac.val, Frac.scale, zpow_negSucc, div_mul_eq_div_div, ← div_eq_mul_inv]

theorem Frac.natCast_le_val_iff {x : Frac} (hden : 0 < x.den) (k : Nat) : (k : ℚ) ≤ x.val ↔ k * x.den ≤ x.num := by
  rw [Frac.val, le_div_iff₀ (by exact_mod_cast hden)]
  norm_cast

theorem Frac.val_le_natCast_iff {x : Frac} (hden : 0 < x.den) (k : Nat) : x.val ≤ k ↔ x.num ≤ k * x.den := by
  rw [Frac.val, div_le_iff₀ (by exact_mod_cast hden)]
  norm_cast

theorem Frac.two_pow_le_val_scale_iff (x : Frac) (q : Int) (k : Nat) :
    ((2 ^ k : Nat) : ℚ) ≤ (x.scale (-q)).val ↔ (2 : ℚ) ^ (q + k) ≤ x.val := by
  rw [Frac.val_scale, zpow_neg, ← div_eq_mul_inv, le_div_iff₀ (by positivity), add_comm, zpow_add₀ two_ne_zero]
  norm_cast

theorem Frac.val_scale_le_two_pow_iff (x : Frac) (q : Int) (k : Nat) :
    (x.scale (-q)).val ≤ ((2 ^ k : Nat) : ℚ) ↔ x.val ≤ (2 : ℚ) ^ (q + k) := by
  rw [Frac.val_scale, zpow_neg, ← div_eq_mul_inv, div_le_iff₀ (by positivity), add_comm, zpow_add₀ two_ne_zero]
  norm_cast

theorem Frac.val_eq_div_iff {x : Frac} (hden : 0 < x.den) (k d : Nat) (hd : 0 < d) : x.val = k / d ↔ x.num * d = k * x.den := by
  rw [Frac.val, div_eq_div_iff (by positivity) (by positivity)]
  norm_cast

/-- `2^E <= x < 2^(E+1)` (R264): the difference of the two logarithms is `E` or one more, and the comparison decides. -/
theorem Frac.floorLog2_bounds {x : Frac} (hnum : 0 < x.num) (hden : 0 < x.den) :
    (2 : ℚ) ^ x.floorLog2 ≤ x.val ∧ x.val < 2 ^ (x.floorLog2 + 1) := by
  set k : Int := (x.num.log2 : Int) - (x.den.log2 : Int) with hk
  have hn0 : (2 : ℚ) ^ (x.num.log2 : Int) ≤ x.num := by exact_mod_cast Nat.log2_self_le hnum.ne'
  have hn1 : (x.num : ℚ) < 2 ^ (x.num.log2 + 1 : Int) := by exact_mod_cast Nat.lt_log2_self (n := x.num)
  have hd0 : (2 : ℚ) ^ (x.den.log2 : Int) ≤ x.den := by exact_mod_cast Nat.log2_self_le hden.ne'
  have hd1 : (x.den : ℚ) < 2 ^ (x.den.log2 + 1 : Int) := by exact_mod_cast Nat.lt_log2_self (n := x.den)
  have hlow : (2 : ℚ) ^ (k - 1) ≤ x.val := by
    rw [show k - 1 = (x.num.log2 : Int) - (x.den.log2 + 1 : Int) by omega, zpow_sub₀ two_ne_zero, Frac.val]
    exact div_le_div₀ (by positivity) hn0 (by positivity) hd1.le
  have hhigh : x.val < (2 : ℚ) ^ (k + 1) := by
    rw [show k + 1 = (x.num.log2 + 1 : Int) - (x.den.log2 : Int) by omega, zpow_sub₀ two_ne_zero, Frac.val]
    exact div_lt_div₀ hn1 hd0 (by positivity) (by positivity)
  have hge : (x.scale (-k)).den ≤ (x.scale (-k)).num ↔ (2 : ℚ) ^ k ≤ x.val := by
    have h := Frac.natCast_le_val_iff (Frac.den_scale_pos hden (-k)) 1
    rw [Nat.one_mul, Frac.val_scale, zpow_neg, ← div_eq_mul_inv, Nat.cast_one, one_le_div (by positivity)] at h
    exact h.symm
  rw [Frac.floorLog2, ← hk]
  split
  next h => exact ⟨hge.mp h, hhigh⟩
  next h => exact ⟨hlow, by simpa using not_le.mp (mt hge.mpr h)⟩

/-! ### `roundInt` -/

section RoundInt

variable {x : Frac} (rm : RoundingMode) (s : Bool)

/-- The floor, or, on a fraction that is no integer, one more. -/
theorem roundInt_cases (x : Frac) :
    roundInt x rm s = x.num / x.den ∨ (x.num % x.den ≠ 0 ∧ roundInt x rm s = x.num / x.den + 1) := by
  unfold roundInt
  cases rm <;> dsimp only <;> split_ifs <;> simp_all

theorem le_roundInt (hden : 0 < x.den) {k : Nat} (h : (k : ℚ) ≤ x.val) : k ≤ roundInt x rm s := by
  have hfloor : k ≤ x.num / x.den := (Nat.le_div_iff_mul_le hden).mpr ((Frac.natCast_le_val_iff hden k).mp h)
  obtain heq | ⟨-, heq⟩ := roundInt_cases rm s x <;> omega

theorem roundInt_le (hden : 0 < x.den) {k : Nat} (h : x.val ≤ k) : roundInt x rm s ≤ k := by
  have hnum := (Frac.val_le_natCast_iff hden k).mp h
  have hdiv := Nat.div_add_mod x.num x.den
  obtain heq | ⟨hr, heq⟩ := roundInt_cases rm s x
  · rw [heq]
    exact Nat.div_le_of_le_mul (by rwa [Nat.mul_comm])
  · rw [heq]
    refine Nat.succ_le_of_lt (Nat.lt_of_mul_lt_mul_left (a := x.den) ?_)
    rw [Nat.mul_comm x.den k]
    omega

variable {rm s}

theorem le_roundInt_iff_of_roundsDown (hden : 0 < x.den) (hrm : RoundsDown rm s) (k : Nat) :
    k ≤ roundInt x rm s ↔ k * x.den ≤ x.num := by
  have heq : roundInt x rm s = x.num / x.den := by
    obtain rfl | ⟨rfl, rfl⟩ | ⟨rfl, rfl⟩ := hrm <;> simp [roundInt]
  rw [heq, Nat.le_div_iff_mul_le hden]

/-- Where the integer `k` stands to a fraction: with its successor still not above it, as its floor, or above it. -/
theorem floor_trichotomy (hden : 0 < x.den) (k : Nat) :
    (k < x.num / x.den ∧ k * x.den + x.den ≤ x.num) ∨
    (k = x.num / x.den ∧ x.num = k * x.den + x.num % x.den ∧ x.num % x.den < x.den) ∨
    (x.num / x.den < k ∧ x.num < k * x.den) := by
  obtain hlt | rfl | hgt := Nat.lt_trichotomy k (x.num / x.den)
  · exact .inl ⟨hlt, Nat.succ_mul .. ▸ (Nat.le_div_iff_mul_le hden).mp hlt⟩
  · exact .inr (.inl ⟨rfl, (Nat.div_add_mod' ..).symm, Nat.mod_lt _ hden⟩)
  · exact .inr (.inr ⟨hgt, (Nat.div_lt_iff_lt_mul hden).mp hgt⟩)

theorem le_roundInt_iff_of_roundsUp (hden : 0 < x.den) (hrm : RoundsUp rm s) {k : Nat} (hk : 0 < k) :
    k ≤ roundInt x rm s ↔ (k - 1) * x.den < x.num := by
  have heq : roundInt x rm s = if x.num % x.den = 0 then x.num / x.den else x.num / x.den + 1 := by
    obtain ⟨rfl, rfl⟩ | ⟨rfl, rfl⟩ := hrm <;> rfl
  rw [heq]
  obtain h | h | h := floor_trichotomy hden (k - 1) <;> split <;> omega

/-- Below an even integer both nearest modes round to it from half a unit on: the tie goes up. -/
theorem le_roundInt_iff_of_roundsNear (hden : 0 < x.den) (hrm : RoundsNear rm) {k : Nat} (hk : 0 < k) (heven : k % 2 = 0) :
    k ≤ roundInt x rm s ↔ 2 * ((k - 1) * x.den) + x.den ≤ 2 * x.num := by
  have hup (h : k - 1 = x.num / x.den) : k ≤ roundInt x rm s ↔ x.den ≤ 2 * (x.num % x.den) := by
    have hodd : x.num / x.den % 2 = 1 := by omega
    obtain rfl | rfl := hrm <;> simp [roundInt, hodd] <;> split_ifs <;> omega
  have hcases := roundInt_cases rm s x
  obtain h | h | h := floor_trichotomy hden (k - 1)
  · omega
  · rw [hup h.1]
    omega
  · omega

end RoundInt

/-! ### `round32` -/

section Round32

variable (s : Bool) (m : Frac) (rm : RoundingMode)

/-- The quantum of the result, `2^q` (R264). -/
def quantum : Int := max (m.floorLog2 - 23) (-149)

/-- The significand of the result, an integer of at most 24 bits or the carry out of them. -/
def significand : Nat := roundInt (m.scale (-quantum m)) rm s

/-- The code of the result as if codes had no end. -/
def roundCode : Nat := (quantum m + 149).toNat * 2 ^ 23 + significand s m rm

/-- The significand with an exponent range that has no lower end. -/
def significand24 : Nat := roundInt (m.scale (-(m.floorLog2 - 23))) rm s

/-- The magnitude rounded to 24 bits with an unbounded exponent range (R265, R266). -/
def rounded24 : ℚ := significand24 s m rm * 2 ^ (m.floorLog2 - 23)

/-- `pack` writes the code that counts up from the quantum `2^-149`, or overflows where that code is no finite one. -/
theorem pack_eq {n : Nat} {q : Int} (hn : n < 2 ^ 24) (hq : -149 ≤ q) (hsub : n < 2 ^ 23 → q = -149) (F : FpFlags) :
    pack s n q rm F =
      if (q + 149).toNat * 2 ^ 23 + n < 0x7F800000 then (signBit s ||| BitVec.ofNat 32 ((q + 149).toNat * 2 ^ 23 + n), F)
      else overflow s rm := by
  unfold pack
  split
  next h =>
    obtain rfl := h
    simp [hsub (by norm_num), zero]
  next =>
    split
    next h => simp [hsub h, show n < 0x7F800000 by omega]
    next =>
      split
      · rw [if_neg (by omega)]
      · rw [if_pos (by omega), show (q + 150).toNat * 2 ^ 23 + (n - 2 ^ 23) = (q + 149).toNat * 2 ^ 23 + n by omega]

/-- The test for tininess compares the magnitude rounded to 24 bits with `2^-126` (R266). -/
theorem tiny_eq : decide ((Frac.scale ⟨significand24 s m rm, 1⟩ (m.floorLog2 - 23 + 126)).num <
    (Frac.scale ⟨significand24 s m rm, 1⟩ (m.floorLog2 - 23 + 126)).den) = decide (rounded24 s m rm < 2 ^ (-126 : Int)) := by
  have h := Frac.natCast_le_val_iff (Frac.den_scale_pos (x := ⟨significand24 s m rm, 1⟩) Nat.one_pos (m.floorLog2 - 23 + 126)) 1
  rw [Nat.one_mul, Frac.val_scale, zpow_add₀ two_ne_zero, ← mul_assoc] at h
  rw [decide_eq_decide, ← not_le, ← h, ← not_le, not_iff_not, zpow_neg, inv_le_iff_one_le_mul₀ (by positivity), rounded24]
  simp [Frac.val]

/-- The test for inexactness compares the significand at its quantum with the magnitude (R264, R271). -/
theorem inexact_eq {m : Frac} (hden : 0 < m.den) :
    (significand s m rm * (m.scale (-quantum m)).den != (m.scale (-quantum m)).num) =
      decide (significand s m rm * (2 : ℚ) ^ quantum m ≠ m.val) := by
  have h := Frac.val_eq_div_iff (Frac.den_scale_pos hden (-quantum m)) (significand s m rm) 1 Nat.one_pos
  rw [Nat.mul_one, Nat.cast_one, div_one, Frac.val_scale, zpow_neg, ← div_eq_mul_inv, div_eq_iff (by positivity)] at h
  rw [Bool.eq_iff_iff, bne_iff_ne, decide_eq_true_iff, ne_comm, Ne, ← h, eq_comm]

variable {m}
variable (hnum : 0 < m.num) (hden : 0 < m.den)
include hnum hden

theorem significand24_bounds : 2 ^ 23 ≤ significand24 s m rm ∧ significand24 s m rm ≤ 2 ^ 24 := by
  obtain ⟨hlow, hhigh⟩ := Frac.floorLog2_bounds hnum hden
  have hden' := Frac.den_scale_pos hden (-(m.floorLog2 - 23))
  constructor
  · exact le_roundInt rm s hden' ((Frac.two_pow_le_val_scale_iff ..).mpr (by simpa using hlow))
  · refine roundInt_le rm s hden' ((Frac.val_scale_le_two_pow_iff ..).mpr ?_)
    rw [show m.floorLog2 - 23 + (24 : Nat) = m.floorLog2 + 1 by omega]
    exact hhigh.le

/-- At the end of the exponent range the significand loses bits, and it has none to spare. -/
theorem significand_cases :
    (quantum m = m.floorLog2 - 23 ∧ significand s m rm = significand24 s m rm) ∨
    (quantum m = -149 ∧ m.floorLog2 - 23 < -149 ∧ significand s m rm ≤ 2 ^ 23) := by
  obtain h | h := le_or_gt (-149) (m.floorLog2 - 23)
  · exact .inl ⟨max_eq_left h, by rw [significand, quantum, max_eq_left h, significand24]⟩
  · have hq : quantum m = -149 := max_eq_right h.le
    refine .inr ⟨hq, h, roundInt_le rm s (Frac.den_scale_pos hden _) ((Frac.val_scale_le_two_pow_iff ..).mpr ?_)⟩
    obtain ⟨-, hhigh⟩ := Frac.floorLog2_bounds hnum hden
    exact hhigh.le.trans (zpow_le_zpow_right₀ one_le_two (by rw [hq]; omega))

theorem significand_le : significand s m rm ≤ 2 ^ 24 := by
  have hbounds := significand24_bounds s rm hnum hden
  have hcases := significand_cases s rm hnum hden
  omega

theorem quantum_eq_or_le_significand : quantum m = -149 ∨ 2 ^ 23 ≤ significand s m rm := by
  have hbounds := significand24_bounds s rm hnum hden
  have hcases := significand_cases s rm hnum hden
  omega

/-- Rounding to 24 bits reaches a power of two from an exponent above, or by the carry from the exponent below. -/
theorem two_zpow_le_rounded24_iff_carry (q : Int) :
    (2 : ℚ) ^ (q + 24) ≤ rounded24 s m rm ↔
      q < m.floorLog2 - 23 ∨ (q = m.floorLog2 - 23 ∧ significand24 s m rm = 2 ^ 24) := by
  obtain ⟨hlow, hhigh⟩ := significand24_bounds s rm hnum hden
  have hlow' : (2 : ℚ) ^ (23 : Int) ≤ significand24 s m rm := by exact_mod_cast hlow
  have hhigh' : (significand24 s m rm : ℚ) ≤ 2 ^ (24 : Int) := by exact_mod_cast hhigh
  set e := m.floorLog2 - 23 with he
  rw [rounded24, ← he]
  have hpos : (0 : ℚ) < 2 ^ e := by positivity
  obtain hlt | rfl | hgt := lt_trichotomy q e
  · refine iff_of_true ?_ (.inl hlt)
    calc (2 : ℚ) ^ (q + 24) ≤ 2 ^ (23 + e) := zpow_le_zpow_right₀ one_le_two (by omega)
      _ = 2 ^ (23 : Int) * 2 ^ e := zpow_add₀ two_ne_zero ..
      _ ≤ significand24 s m rm * 2 ^ e := mul_le_mul_of_nonneg_right hlow' hpos.le
  · rw [add_comm, zpow_add₀ two_ne_zero, mul_le_mul_iff_left₀ hpos]
    norm_cast
    omega
  · refine iff_of_false (not_le.mpr ?_) (by omega)
    calc significand24 s m rm * (2 : ℚ) ^ e ≤ 2 ^ (24 : Int) * 2 ^ e := mul_le_mul_of_nonneg_right hhigh' hpos.le
      _ = 2 ^ (24 + e) := (zpow_add₀ two_ne_zero ..).symm
      _ < 2 ^ (q + 24) := zpow_lt_zpow_right₀ one_lt_two (by omega)

/-- The same threshold at a fixed quantum, whatever the exponent of the magnitude is. -/
theorem two_zpow_le_rounded24_iff (q : Int) :
    (2 : ℚ) ^ (q + 24) ≤ rounded24 s m rm ↔ 2 ^ 24 ≤ roundInt (m.scale (-q)) rm s := by
  rw [two_zpow_le_rounded24_iff_carry s rm hnum hden]
  obtain ⟨hlow, hhigh⟩ := Frac.floorLog2_bounds hnum hden
  have hden' := Frac.den_scale_pos hden (-q)
  obtain hlt | rfl | hgt := lt_trichotomy q (m.floorLog2 - 23)
  · refine iff_of_true (.inl hlt) (le_roundInt rm s hden' ((Frac.two_pow_le_val_scale_iff ..).mpr ?_))
    exact (zpow_le_zpow_right₀ one_le_two (by omega)).trans hlow
  · have hle := (significand24_bounds s rm hnum hden).2
    rw [← significand24]
    omega
  · have hsmall : roundInt (m.scale (-q)) rm s ≤ 2 ^ 23 :=
      roundInt_le rm s hden' ((Frac.val_scale_le_two_pow_iff ..).mpr
        (hhigh.le.trans (zpow_le_zpow_right₀ one_le_two (by omega))))
    omega

theorem roundCode_lt_iff : roundCode s m rm < 0x7F800000 ↔ rounded24 s m rm < 2 ^ (128 : Int) := by
  have hover := two_zpow_le_rounded24_iff_carry s rm hnum hden 104
  have hbounds := significand24_bounds s rm hnum hden
  have hcases := significand_cases s rm hnum hden
  rw [← not_le, ← not_le, show (128 : Int) = 104 + 24 by norm_num, hover, roundCode]
  omega

/-- With the carry out of the significand, `round32` packs the code of the result, or overflows. -/
theorem pack_significand (F : FpFlags) :
    (if significand s m rm = 2 ^ 24 then pack s (2 ^ 23) (quantum m + 1) rm F else pack s (significand s m rm) (quantum m) rm F) =
      if roundCode s m rm < 0x7F800000 then (signBit s ||| BitVec.ofNat 32 (roundCode s m rm), F) else overflow s rm := by
  have hle := significand_le s rm hnum hden
  have hquantum : -149 ≤ quantum m := le_max_right ..
  have hor := quantum_eq_or_le_significand s rm hnum hden
  split
  next hcarry =>
    have hcode : (quantum m + 1 + 149).toNat * 2 ^ 23 + 2 ^ 23 = roundCode s m rm := by
      rw [roundCode, hcarry]
      omega
    rw [pack_eq s rm (by norm_num) (by omega) (by omega), hcode]
  next => rw [pack_eq s rm (by omega) hquantum (by omega), roundCode]

/-- The flags of a result that does not overflow (R264, R266). -/
def roundFlags (s : Bool) (m : Frac) (rm : RoundingMode) : FpFlags :=
  .inexact (decide (significand s m rm * (2 : ℚ) ^ quantum m ≠ m.val)) (decide (rounded24 s m rm < 2 ^ (-126 : Int)))

/-- R264 in one choice: the code where it is a finite one, else an overflow. -/
theorem round32_eq :
    round32 s m rm =
      if roundCode s m rm < 0x7F800000 then (signBit s ||| BitVec.ofNat 32 (roundCode s m rm), roundFlags s m rm)
      else overflow s rm := by
  rw [roundFlags, ← inexact_eq s rm hden, ← tiny_eq]
  exact pack_significand s rm hnum hden _

/-- A finite result is the significand at its quantum, in units of `2^-149`. -/
theorem magOfCode_roundCode : (magOfCode (roundCode s m rm) : ℚ) = significand s m rm * 2 ^ quantum m * 2 ^ 149 := by
  have hle := significand_le s rm hnum hden
  have hquantum : -149 ≤ quantum m := le_max_right ..
  have hor := quantum_eq_or_le_significand s rm hnum hden
  have hexp : quantum m + (149 : Nat) = ((quantum m + 149).toNat : Int) := by omega
  rw [roundCode, magOfCode_significand hle (by omega), mul_assoc, ← zpow_natCast 2 149, ← zpow_add₀ two_ne_zero, hexp]
  norm_cast

end Round32

/-! ### Overflows (R265) -/

theorem overflow_of_roundsDown {rm : RoundingMode} {s : Bool} (h : RoundsDown rm s) : overflow s rm = (maxf s, .overflow) := by
  obtain rfl | ⟨rfl, rfl⟩ | ⟨rfl, rfl⟩ := h <;> rfl

theorem overflow_of_not_roundsDown {rm : RoundingMode} {s : Bool} (h : ¬ RoundsDown rm s) : overflow s rm = (inf s, .overflow) := by
  cases rm <;> cases s <;> simp_all [overflow]

@[simp] theorem sign_inf (s : Bool) : sign (inf s) = s := sign_signBit_or s (c := 0x7F800000) (by norm_num)
@[simp] theorem code_inf (s : Bool) : code (inf s) = 0x7F800000 := code_signBit_or s (c := 0x7F800000) (by norm_num)
@[simp] theorem sign_maxf (s : Bool) : sign (maxf s) = s := sign_signBit_or s (c := 0x7F7FFFFF) (by norm_num)
@[simp] theorem code_maxf (s : Bool) : code (maxf s) = 0x7F7FFFFF := code_signBit_or s (c := 0x7F7FFFFF) (by norm_num)

theorem overflow_cases (s : Bool) (rm : RoundingMode) :
    (RoundsDown rm s ∧ overflow s rm = (maxf s, .overflow)) ∨ (¬ RoundsDown rm s ∧ overflow s rm = (inf s, .overflow)) := by
  by_cases h : RoundsDown rm s
  · exact .inl ⟨h, overflow_of_roundsDown h⟩
  · exact .inr ⟨h, overflow_of_not_roundsDown h⟩

end Sys2Proof.Machine.Fp
end

section
/-! SUPPORT. What `round32` delivers: result, and each flag with the condition that raises it (44_fp_numerics.md R264 to R266, R271). -/

namespace Sys2Proof.Machine.Fp

theorem mag_maxf (s : Bool) : mag (maxf s) = (2 ^ 24 - 1) * 2 ^ 253 := by
  rw [mag_eq, code_maxf]
  exact magOfCode_significand (j := 253) (n := 2 ^ 24 - 1) (by norm_num) (.inr (by norm_num))

section Delivered

variable (s : Bool) {m : Frac} (rm : RoundingMode) (hnum : 0 < m.num) (hden : 0 < m.den)
include hnum hden

/-- A code is a finite one where the magnitude does not round to `2^128`, seen from the quantum of the last binade. -/
theorem roundCode_lt_iff_roundInt : roundCode s m rm < 0x7F800000 ↔ roundInt (m.scale (-104)) rm s < 2 ^ 24 := by
  rw [roundCode_lt_iff s rm hnum hden, ← not_le, ← not_le, not_iff_not]
  exact two_zpow_le_rounded24_iff s rm hnum hden 104

/-- The magnitude is tiny where it does not round to `2^-126`, seen from the quantum of the binade below. -/
theorem tiny_iff_roundInt : rounded24 s m rm < 2 ^ (-126 : Int) ↔ roundInt (m.scale 150) rm s < 2 ^ 24 := by
  rw [← not_le, ← not_le, not_iff_not]
  exact two_zpow_le_rounded24_iff s rm hnum hden (-150)

theorem round32_ovf_iff : (round32 s m rm).2.ovf = true ↔ 2 ^ 24 ≤ roundInt (m.scale (-104)) rm s := by
  rw [round32_eq s rm hnum hden, ← not_lt, ← roundCode_lt_iff_roundInt s rm hnum hden]
  split
  next hfin => exact iff_of_false Bool.false_ne_true (not_not.mpr hfin)
  next hover => exact iff_of_true rfl hover

theorem round32_of_ovf (hovf : (round32 s m rm).2.ovf = true) : round32 s m rm = overflow s rm := by
  rw [round32_ovf_iff s rm hnum hden, ← not_lt, ← roundCode_lt_iff_roundInt s rm hnum hden] at hovf
  rw [round32_eq s rm hnum hden, if_neg hovf]

theorem round32_of_not_ovf (hovf : ¬ (round32 s m rm).2.ovf = true) :
    roundCode s m rm < 0x7F800000 ∧
    round32 s m rm = (signBit s ||| BitVec.ofNat 32 (roundCode s m rm), roundFlags s m rm) := by
  rw [round32_ovf_iff s rm hnum hden, not_le, ← roundCode_lt_iff_roundInt s rm hnum hden] at hovf
  exact ⟨hovf, by rw [round32_eq s rm hnum hden, if_pos hovf]⟩

theorem round32_unf_iff : (round32 s m rm).2.unf = true ↔
    (round32 s m rm).2.nx = true ∧ roundInt (m.scale 150) rm s < 2 ^ 24 := by
  rw [← tiny_iff_roundInt s rm hnum hden, round32_eq s rm hnum hden]
  split
  next => simp [roundFlags, FpFlags.inexact]
  next hover =>
    rw [roundCode_lt_iff s rm hnum hden, not_lt] at hover
    have hbig : ¬ rounded24 s m rm < 2 ^ (-126 : Int) :=
      not_lt.mpr ((zpow_le_zpow_right₀ one_le_two (by norm_num)).trans hover)
    exact iff_of_false Bool.false_ne_true fun h => hbig h.2

theorem round32_nv : (round32 s m rm).2.nv = false := by
  rw [round32_eq s rm hnum hden]
  split <;> rfl

theorem round32_dz : (round32 s m rm).2.dz = false := by
  rw [round32_eq s rm hnum hden]
  split <;> rfl

/-- The result has the sign of the exact value, and the code of an infinity exactly for an overflow that is not rounded down. -/
theorem round32_sign_code :
    sign (round32 s m rm).1 = s ∧
    (code (round32 s m rm).1 < 0x7F800000 ∨ (code (round32 s m rm).1 = 0x7F800000 ∧ (round32 s m rm).2.ovf = true)) := by
  by_cases hovf : (round32 s m rm).2.ovf = true
  · obtain ⟨-, h⟩ | ⟨-, h⟩ := overflow_cases s rm <;> simp [round32_of_ovf s rm hnum hden hovf, h, FpFlags.overflow]
  · obtain ⟨hlt, heq⟩ := round32_of_not_ovf s rm hnum hden hovf
    rw [heq, sign_signBit_or s (by omega), code_signBit_or s (by omega)]
    exact ⟨rfl, .inl hlt⟩

theorem round32_isNaN : isNaN (round32 s m rm).1 = false := by
  have hcode := (round32_sign_code s rm hnum hden).2
  rw [isNaN_eq, decide_eq_false_iff_not]
  omega

theorem round32_nx_iff : (round32 s m rm).2.nx = true ↔
    isInf (round32 s m rm).1 = true ∨ mag (round32 s m rm).1 * m.den ≠ m.num * 2 ^ 149 := by
  by_cases hovf : (round32 s m rm).2.ovf = true
  · refine iff_of_true (by rw [round32_of_ovf s rm hnum hden hovf]; rfl) ?_
    rw [round32_of_ovf s rm hnum hden hovf]
    obtain ⟨hdown, h⟩ | ⟨-, h⟩ := overflow_cases s rm
    · rw [round32_ovf_iff s rm hnum hden, le_roundInt_iff_of_roundsDown (Frac.den_scale_pos hden _) hdown] at hovf
      have hbig : 2 ^ 24 * (m.den * 2 ^ 104) ≤ m.num := hovf
      rw [h, mag_maxf]
      omega
    · simp [h, isInf_eq]
  · obtain ⟨hlt, heq⟩ := round32_of_not_ovf s rm hnum hden hovf
    have hval := Frac.val_eq_div_iff hden (magOfCode (roundCode s m rm)) (2 ^ 149) (by positivity)
    rw [magOfCode_roundCode s rm hnum hden, Nat.cast_pow, Nat.cast_ofNat, mul_div_cancel_right₀ _ (by positivity)] at hval
    simp only [heq, isInf_eq, mag_eq, code_signBit_or s (show roundCode s m rm < 2 ^ 31 by omega), decide_eq_true_iff, roundFlags,
      FpFlags.inexact, hlt.ne, false_or, ne_comm (b := m.val), ne_comm (b := m.num * 2 ^ 149)]
    exact hval.not

end Delivered

/-! ### The thresholds of each direction -/

section Thresholds

variable {s : Bool} {m : Frac} {rm : RoundingMode} (hden : 0 < m.den)
include hden

theorem overflows_iff_of_roundsDown (h : RoundsDown rm s) :
    2 ^ 24 ≤ roundInt (m.scale (-104)) rm s ↔ 2 ^ 128 * m.den ≤ m.num := by
  rw [le_roundInt_iff_of_roundsDown (Frac.den_scale_pos hden _) h]
  change 2 ^ 24 * (m.den * 2 ^ 104) ≤ m.num ↔ _
  omega

theorem overflows_iff_of_roundsUp (h : RoundsUp rm s) :
    2 ^ 24 ≤ roundInt (m.scale (-104)) rm s ↔ (2 ^ 24 - 1) * 2 ^ 104 * m.den < m.num := by
  rw [le_roundInt_iff_of_roundsUp (Frac.den_scale_pos hden _) h (by norm_num)]
  change (2 ^ 24 - 1) * (m.den * 2 ^ 104) < m.num ↔ _
  omega

theorem overflows_iff_of_roundsNear (h : RoundsNear rm) :
    2 ^ 24 ≤ roundInt (m.scale (-104)) rm s ↔ (2 ^ 25 - 1) * 2 ^ 103 * m.den ≤ m.num := by
  rw [le_roundInt_iff_of_roundsNear (Frac.den_scale_pos hden _) h (by norm_num) (by norm_num)]
  change 2 * ((2 ^ 24 - 1) * (m.den * 2 ^ 104)) + m.den * 2 ^ 104 ≤ 2 * m.num ↔ _
  omega

theorem tiny_iff_of_roundsDown (h : RoundsDown rm s) :
    roundInt (m.scale 150) rm s < 2 ^ 24 ↔ m.num * 2 ^ 126 < m.den := by
  rw [← not_le, le_roundInt_iff_of_roundsDown (Frac.den_scale_pos hden _) h]
  change ¬ 2 ^ 24 * m.den ≤ m.num * 2 ^ 150 ↔ _
  omega

theorem tiny_iff_of_roundsUp (h : RoundsUp rm s) :
    roundInt (m.scale 150) rm s < 2 ^ 24 ↔ m.num * 2 ^ 150 ≤ (2 ^ 24 - 1) * m.den := by
  rw [← not_le, le_roundInt_iff_of_roundsUp (Frac.den_scale_pos hden _) h (by norm_num)]
  exact not_lt

theorem tiny_iff_of_roundsNear (h : RoundsNear rm) :
    roundInt (m.scale 150) rm s < 2 ^ 24 ↔ m.num * 2 ^ 151 < (2 ^ 25 - 1) * m.den := by
  rw [← not_le, le_roundInt_iff_of_roundsNear (Frac.den_scale_pos hden _) h (by norm_num) (by norm_num)]
  change ¬ 2 * ((2 ^ 24 - 1) * m.den) + m.den ≤ 2 * (m.num * 2 ^ 150) ↔ _
  omega

end Thresholds

end Sys2Proof.Machine.Fp
end

section
/-! PROOFS. The obligation about the flags of `round32` (44_fp_numerics.md R264 to R266, R271). -/

namespace Sys2Proof.Machine.Fp

/-- Settles O52: overflow and tininess are decided by one threshold each, `2^128` and `2^-126`, of the magnitude rounded to 24 bits. -/
theorem round32FlagsAreRight : Obligations.Round32FlagsAreRight := by
  intro s num den rm r F hnum hden heq
  obtain ⟨rfl, rfl⟩ : (round32 s ⟨num, den⟩ rm).1 = r ∧ (round32 s ⟨num, den⟩ rm).2 = F := by simp [heq]
  obtain ⟨hsign, hcode⟩ := round32_sign_code (m := ⟨num, den⟩) s rm hnum hden
  have hovf := round32_ovf_iff (m := ⟨num, den⟩) s rm hnum hden
  have hunf := round32_unf_iff (m := ⟨num, den⟩) s rm hnum hden
  refine ⟨round32_isNaN s rm hnum hden, hsign, round32_nv s rm hnum hden, round32_dz s rm hnum hden, round32_nx_iff s rm hnum hden,
    fun h => ?_, fun h => ?_, fun h => ?_, fun h => ?_, fun h => ?_⟩
  · exact ⟨hovf.trans (overflows_iff_of_roundsNear hden h), by rw [hunf, tiny_iff_of_roundsNear hden h]⟩
  · exact ⟨hovf.trans (overflows_iff_of_roundsDown hden h), by rw [hunf, tiny_iff_of_roundsDown hden h]⟩
  · exact ⟨hovf.trans (overflows_iff_of_roundsUp hden h), by rw [hunf, tiny_iff_of_roundsUp hden h]⟩
  · have hover := round32_of_ovf (m := ⟨num, den⟩) s rm hnum hden h
    rw [hover]
    exact ⟨rfl, rfl, fun hdown => by rw [overflow_of_roundsDown hdown], fun hnot => by rw [overflow_of_not_roundsDown hnot]⟩
  · rw [isInf_eq, decide_eq_true_iff] at h
    exact (hcode.resolve_left (by omega)).2

end Sys2Proof.Machine.Fp
end

section
/-! SUPPORT. How the arithmetic functions answer (44_fp_numerics.md R268 to R277): the canonical NaN for a NaN operand or an invalid
operation, an ordinary result otherwise. -/

namespace Sys2Proof.Machine.Fp

variable (a b c : Word) (m : RoundingMode)

/-! ### A pattern with its sign inverted, and patterns that are no NaN -/

@[simp] theorem code_xor_signBit (s : Bool) : code (a ^^^ signBit s) = code a := by
  rw [code, BitVec.toNat_xor, Nat.xor_mod_two_pow, show (signBit s).toNat % 2 ^ 31 = 0 by cases s <;> rfl, Nat.xor_zero, code]

@[simp] theorem sign_xor_signBit (s : Bool) : sign (a ^^^ signBit s) = (sign a ^^ s) := by
  cases s <;> simp [sign, signBit]

@[simp] theorem isNaN_xor_signBit (s : Bool) : isNaN (a ^^^ signBit s) = isNaN a := by simp [isNaN_eq]
@[simp] theorem isSNaN_xor_signBit (s : Bool) : isSNaN (a ^^^ signBit s) = isSNaN a := by simp [isSNaN_eq]
@[simp] theorem isInf_xor_signBit (s : Bool) : isInf (a ^^^ signBit s) = isInf a := by simp [isInf_eq]

theorem isNaN_of_isSNaN {a : Word} (h : isSNaN a = true) : isNaN a = true := by
  rw [isSNaN, Bool.and_eq_true] at h
  exact h.1

theorem isNaN_of_isInf {a : Word} (h : isInf a = true) : isNaN a = false := by simp_all [isInf_eq, isNaN_eq]

theorem isNaN_of_isZero {a : Word} (h : isZero a = true) : isNaN a = false := by simp_all [isZero_eq, isNaN_eq]

theorem isInf_of_isZero {a : Word} (h : isZero a = true) : isInf a = false := by simp_all [isZero_eq, isInf_eq]

theorem isNaN_inf (s : Bool) : isNaN (inf s) = false := by simp [isNaN_eq]

theorem isNaN_zero (s : Bool) : isNaN (zero s) = false := by cases s <;> rfl

theorem mag_pos {a : Word} (h : ¬ isZero a = true) : 0 < mag a := Nat.pos_of_ne_zero (mt (mag_eq_zero_iff a).mp h)

/-! ### Ordinary results -/

/-- A result that is no NaN, without NV and DZ, and with OF and UF only beside NX. -/
structure Ordinary (R : Word × FpFlags) : Prop where
  notNaN : isNaN R.1 = false
  nv : R.2.nv = false
  dz : R.2.dz = false
  nx : R.2.ovf = true ∨ R.2.unf = true → R.2.nx = true

theorem ordinary_exact {w : Word} (h : isNaN w = false) : Ordinary (w, .empty) := ⟨h, rfl, rfl, fun h => h.elim id id⟩

theorem ordinary_round32 (s : Bool) {x : Frac} (hnum : 0 < x.num) (hden : 0 < x.den) : Ordinary (round32 s x m) where
  notNaN := round32_isNaN s m hnum hden
  nv := round32_nv s m hnum hden
  dz := round32_dz s m hnum hden
  nx h := h.elim (fun hovf => by rw [round32_of_ovf s m hnum hden hovf]; rfl) fun hunf => ((round32_unf_iff s m hnum hden).mp hunf).1

theorem ordinary_roundSigned {v : Int} {d : Nat} (hv : v ≠ 0) (hd : 0 < d) : Ordinary (roundSigned v d m) :=
  ordinary_round32 m _ (Int.natAbs_pos.mpr hv) hd

/-! ### The three ways to answer -/

/-- How an arithmetic function answers: a NaN operand gives `CNAN`, with NV for a signalling one (R268); an invalid operation gives
`CNAN` and NV (R269); any other gives an ordinary result. -/
inductive Answers (nan snan invalid : Bool) : Word × FpFlags → Prop
  | nan : nan = true → Answers nan snan invalid (cnan, .nvIf snan)
  | invalid : nan = false → invalid = true → Answers nan snan invalid (cnan, .onlyNv)
  | ordinary {R : Word × FpFlags} : nan = false → invalid = false → Ordinary R → Answers nan snan invalid R

namespace Answers

variable {nan snan invalid : Bool} {R : Word × FpFlags}

theorem eq_of_nan (h : Answers nan snan invalid R) (hnan : nan = true) : R = (cnan, .nvIf snan) := by
  cases h with
  | nan => rfl
  | invalid hnot | ordinary hnot => exact absurd hnan (by simp [hnot])

theorem nv_iff (h : Answers nan snan invalid R) : R.2.nv = true ↔ (nan = true ∧ snan = true) ∨ (nan = false ∧ invalid = true) := by
  cases h with
  | nan hnan => simp [FpFlags.nvIf, hnan]
  | invalid hnot hinv => simp [FpFlags.onlyNv, FpFlags.nvIf, hnot, hinv]
  | ordinary hnot hinv hR => simp [hR.nv, hnot, hinv]

theorem dz_eq_false (h : Answers nan snan invalid R) : R.2.dz = false := by
  cases h with
  | nan | invalid => rfl
  | ordinary _ _ hR => exact hR.dz

theorem canonical (h : Answers nan snan invalid R) :
    (isNaN R.1 = true → R.1 = cnan) ∧ (R.2.ovf = true ∨ R.2.unf = true → R.2.nx = true) ∧
      (R.2.nv = true → R = (cnan, .onlyNv)) := by
  cases h with
  | nan => exact ⟨fun _ => rfl, fun h => h.elim id id, fun h => by rw [show snan = true from h]; rfl⟩
  | invalid => exact ⟨fun _ => rfl, fun h => h.elim id id, fun _ => rfl⟩
  | ordinary _ _ hR => exact ⟨fun h => by simp [hR.notNaN] at h, hR.nx, fun h => by simp [hR.nv] at h⟩

end Answers

/-! ### One lemma for each function -/

theorem fadd32_answers :
    Answers (isNaN a || isNaN b) (isSNaN a || isSNaN b) (isInf a && isInf b && sign a != sign b) (fadd32 a b m) := by
  unfold fadd32
  split
  next hnan => exact .nan hnan
  next hnan =>
    rw [Bool.not_eq_true] at hnan
    split
    next hinv => exact .invalid hnan hinv
    next hinv =>
      refine .ordinary hnan (Bool.not_eq_true _ ▸ hinv) ?_
      obtain ⟨ha, hb⟩ := Bool.or_eq_false_iff.mp hnan
      split
      · exact ordinary_exact ha
      · split
        · exact ordinary_exact hb
        · dsimp only
          split
          next => exact ordinary_exact (by split <;> exact isNaN_zero _)
          next hv => exact ordinary_roundSigned m hv (by norm_num [unit])

theorem fsub32_answers :
    Answers (isNaN a || isNaN b) (isSNaN a || isSNaN b) (isInf a && isInf b && sign a == sign b) (fsub32 a b m) := by
  have h := fadd32_answers a (b ^^^ signBit true) m
  simp only [isNaN_xor_signBit, isSNaN_xor_signBit, isInf_xor_signBit, sign_xor_signBit, Bool.xor_true] at h
  rwa [show (sign a != !sign b) = (sign a == sign b) by cases sign a <;> cases sign b <;> rfl] at h

theorem fmul32_answers :
    Answers (isNaN a || isNaN b) (isSNaN a || isSNaN b) ((isInf a && isZero b) || (isZero a && isInf b)) (fmul32 a b m) := by
  unfold fmul32
  dsimp only
  split
  next hnan => exact .nan hnan
  next hnan =>
    rw [Bool.not_eq_true] at hnan
    split
    next hinf =>
      split
      next hzero => exact .invalid hnan (by grind [isInf_of_isZero])
      next hzero => exact .ordinary hnan (by simp_all) (ordinary_exact (isNaN_inf _))
    next hinf =>
      refine .ordinary hnan (by simp_all) ?_
      split
      next => exact ordinary_exact (isNaN_zero _)
      next hp => exact ordinary_round32 m _ (Nat.pos_of_ne_zero hp) (by norm_num [unit])

theorem fdiv32_of_divByZero (hfin : IsFinite a) (ha : isZero a = false) (hb : isZero b = true) :
    fdiv32 a b m = (inf (sign a ^^ sign b), .onlyDz) := by
  simp [fdiv32, hfin.1, hfin.2, ha, hb, isNaN_of_isZero hb, isInf_of_isZero hb]

theorem fdiv32_answers (h : ¬ (IsFinite a ∧ isZero a = false ∧ isZero b = true)) :
    Answers (isNaN a || isNaN b) (isSNaN a || isSNaN b) ((isZero a && isZero b) || (isInf a && isInf b)) (fdiv32 a b m) := by
  unfold fdiv32
  dsimp only
  split
  next hnan => exact .nan hnan
  next hnan =>
    rw [Bool.not_eq_true] at hnan
    split
    next hinfa =>
      split
      next hinfb => exact .invalid hnan (by simp [hinfa, hinfb])
      next hinfb => exact .ordinary hnan (by grind [isInf_of_isZero]) (ordinary_exact (isNaN_inf _))
    next hinfa =>
      split
      next hinfb => exact .ordinary hnan (by grind [isInf_of_isZero]) (ordinary_exact (isNaN_zero _))
      next hinfb =>
        split
        next hzerob =>
          have hzeroa : isZero a = true := by simp_all
          rw [if_pos hzeroa]
          exact .invalid hnan (by simp [hzeroa, hzerob])
        next hzerob =>
          refine .ordinary hnan (by simp [hzerob, hinfa]) ?_
          split
          next => exact ordinary_exact (isNaN_zero _)
          next hzeroa => exact ordinary_round32 m _ (mag_pos hzeroa) (mag_pos hzerob)

theorem fdiv32_eq_of_nan (hnan : (isNaN a || isNaN b) = true) : fdiv32 a b m = (cnan, .nvIf (isSNaN a || isSNaN b)) := by
  rw [fdiv32, if_pos hnan, nanFlags2]

theorem fdiv32_canonical : (isNaN (fdiv32 a b m).1 = true → (fdiv32 a b m).1 = cnan) ∧
    ((fdiv32 a b m).2.ovf = true ∨ (fdiv32 a b m).2.unf = true → (fdiv32 a b m).2.nx = true) ∧
    ((fdiv32 a b m).2.nv = true → fdiv32 a b m = (cnan, .onlyNv)) := by
  by_cases h : IsFinite a ∧ isZero a = false ∧ isZero b = true
  · obtain ⟨hfin, ha, hb⟩ := h
    simp [fdiv32_of_divByZero a b m hfin ha hb, isNaN_inf, FpFlags.onlyDz]
  · exact (fdiv32_answers a b m h).canonical

theorem fdiv32_dz_iff : (fdiv32 a b m).2.dz = true ↔ IsFinite a ∧ isZero a = false ∧ isZero b = true := by
  by_cases h : IsFinite a ∧ isZero a = false ∧ isZero b = true
  · obtain ⟨hfin, ha, hb⟩ := h
    exact iff_of_true (by rw [fdiv32_of_divByZero a b m hfin ha hb]; rfl) ⟨hfin, ha, hb⟩
  · exact iff_of_false (by simp [(fdiv32_answers a b m h).dz_eq_false]) h

theorem fdiv32_nv_iff : (fdiv32 a b m).2.nv = true ↔
    isSNaN a = true ∨ isSNaN b = true ∨ (isZero a = true ∧ isZero b = true) ∨ (isInf a = true ∧ isInf b = true) := by
  by_cases h : IsFinite a ∧ isZero a = false ∧ isZero b = true
  · obtain ⟨hfin, ha, hb⟩ := h
    have hnb := isNaN_of_isZero hb
    rw [fdiv32_of_divByZero a b m hfin ha hb]
    grind [FpFlags.onlyDz, isNaN_of_isSNaN]
  · rw [(fdiv32_answers a b m h).nv_iff]
    grind [isNaN_of_isSNaN, isNaN_of_isInf, isNaN_of_isZero]

/-- The sticky bit keeps the fraction positive where the integer root would be 0. -/
theorem sqrtFrac_num_pos {a : Word} (h : ¬ isZero a = true) : 0 < (sqrtFrac a).num := by
  have hpos := mag_pos h
  simp only [sqrtFrac]
  split
  next hroot =>
    have hne : isqrt (2 * mag a * 2 ^ 52) ≠ 0 := fun h0 => by rw [h0] at hroot; omega
    omega
  next => omega

theorem fsqrt32_answers : Answers (isNaN a) (isSNaN a) (sign a && !isNaN a && !isZero a) (fsqrt32 a m) := by
  unfold fsqrt32
  split
  next hnan => exact .nan hnan
  next hnan =>
    rw [Bool.not_eq_true] at hnan
    split
    next hzero => exact .ordinary hnan (by simp [hzero]) (ordinary_exact hnan)
    next hzero =>
      split
      next hsign => exact .invalid hnan (by simp [hsign, hnan, hzero])
      next hsign =>
        refine .ordinary hnan (by simp [hsign]) ?_
        split
        · exact ordinary_exact hnan
        · exact ordinary_round32 m _ (sqrtFrac_num_pos hzero) (by norm_num [sqrtFrac])

/-- The product step is zero times infinity (R269 (c)). -/
def invalidProduct : Bool := (isInf a && isZero b) || (isZero a && isInf b)

/-- The addition step adds an infinite product and an infinite addend of the other sign (R269 (b)). -/
def opposedInfinities (negp negc : Bool) : Bool :=
  (isInf a || isInf b) && !isNaN a && !isNaN b && isInf c && (sign c ^^ negc) != ((sign a ^^ sign b) ^^ negp)

theorem fma32_answers (negp negc : Bool) :
    Answers ((isNaN a || isNaN b || isNaN c) && !invalidProduct a b) (isSNaN a || isSNaN b || isSNaN c)
      (invalidProduct a b || opposedInfinities a b c negp negc) (fma32 a b c m negp negc) := by
  unfold fma32
  simp only [isInf_xor_signBit, sign_xor_signBit]
  rw [← invalidProduct]
  split
  next hprod => exact .invalid (by simp [hprod]) (by simp [hprod])
  next hprod =>
    rw [Bool.not_eq_true] at hprod
    split
    next hnan => exact .nan (by rw [hnan, hprod]; rfl)
    next hnan =>
      rw [Bool.not_eq_true] at hnan
      have hcc : isNaN (c ^^^ signBit negc) = false := by simp_all
      have hopp : opposedInfinities a b c negp negc =
          ((isInf a || isInf b) && isInf c && (sign c ^^ negc) != ((sign a ^^ sign b) ^^ negp)) := by
        simp_all [opposedInfinities]
      rw [hnan, hprod, Bool.false_or, hopp]
      split
      next hinf =>
        rw [hinf, Bool.true_and]
        split
        next hinv => exact .invalid rfl hinv
        next hinv => exact .ordinary rfl (Bool.not_eq_true _ ▸ hinv) (ordinary_exact (isNaN_inf _))
      next hinf =>
        refine .ordinary rfl (by simp [hinf]) ?_
        split
        next => exact ordinary_exact hcc
        next =>
          generalize (if negp then -(num a * num b) else num a * num b) = p
          split
          next => exact ordinary_exact (by split_ifs <;> exact isNaN_zero _)
          next hv => exact ordinary_roundSigned m hv (by norm_num [unit])

end Sys2Proof.Machine.Fp
end

section
/-! PROOFS. The obligation about NaN results and the NV and DZ flags (44_fp_numerics.md R268 to R271, R289). -/

namespace Sys2Proof.Machine.Fp

/-- Settles O54: each function answers by `Answers`, but for a division by zero, which is DZ and an infinity. -/
theorem arithmeticNanAndFlagRules : Obligations.ArithmeticNanAndFlagRules := by
  rintro a b c m negp negc _ _ rfl rfl
  have hadd := fadd32_answers a b m
  have hsub := fsub32_answers a b m
  have hmul := fmul32_answers a b m
  have hsqrt := fsqrt32_answers a m
  have hfma := fma32_answers a b c m negp negc
  refine ⟨?_, fun hnan => ?_, fun hnan => hsqrt.eq_of_nan hnan, fun hnan h1 h2 => ?_, ?_, ?_, ?_, fdiv32_nv_iff a b m, ?_, ?_,
    fdiv32_dz_iff a b m, fun hdz => ?_, ?_, fun hzero => ?_⟩
  · simp only [List.forall_mem_cons]
    exact ⟨hadd.canonical, hsub.canonical, hmul.canonical, fdiv32_canonical a b m, hsqrt.canonical, hfma.canonical, by simp⟩
  · rw [← Bool.or_eq_true] at hnan
    simp only [List.forall_mem_cons]
    exact ⟨hadd.eq_of_nan hnan, hsub.eq_of_nan hnan, hmul.eq_of_nan hnan, fdiv32_eq_of_nan a b m hnan, by simp⟩
  · exact hfma.eq_of_nan (by grind [invalidProduct])
  · rw [hadd.nv_iff]
    grind [isNaN_of_isSNaN, isNaN_of_isInf]
  · rw [hsub.nv_iff]
    grind [isNaN_of_isSNaN, isNaN_of_isInf]
  · rw [hmul.nv_iff]
    grind [isNaN_of_isSNaN, isNaN_of_isInf, isNaN_of_isZero]
  · rw [hsqrt.nv_iff]
    grind [isNaN_of_isSNaN]
  · rw [hfma.nv_iff]
    grind [invalidProduct, opposedInfinities, isNaN_of_isSNaN, isNaN_of_isInf]
  · obtain ⟨hfin, ha, hb⟩ := (fdiv32_dz_iff a b m).mp hdz
    exact fdiv32_of_divByZero a b m hfin ha hb
  · simp [hadd.dz_eq_false, hsub.dz_eq_false, hmul.dz_eq_false, hsqrt.dz_eq_false, hfma.dz_eq_false]
  · simp [fsqrt32, isNaN_of_isZero hzero, hzero, FpFlags.empty]

end Sys2Proof.Machine.Fp
end

section
/-! SUPPORT. The order of the patterns (44_fp_numerics.md R278, R279): keys and extended values both follow sign and code. -/

namespace Sys2Proof.Machine.Fp

variable {a b : Word}

theorem key_eq (a : Word) : key a = if sign a then -(code a : Int) - 1 else code a := by rw [key, toNat_and_low31]

theorem eq_of_key_eq (h : key a = key b) : a = b := by
  rw [key_eq, key_eq] at h
  cases hsa : sign a <;> cases hsb : sign b <;> simp only [hsa, hsb, Bool.false_eq_true, if_true, if_false] at h
  case false.false | true.true => exact eq_of_sign_code (hsa.trans hsb.symm) (by omega)
  case false.true | true.false => omega

/-- The extended value of a code, times `2^149`, without a sign. -/
def extOfCode (c : Nat) : Nat := if c = 0x7F800000 then 2 ^ 278 else magOfCode c

theorem ext_eq (a : Word) : ext a = if sign a then -(extOfCode (code a) : Int) else extOfCode (code a) := by
  rw [ext, isInf_eq, extOfCode, num, mag_eq]
  by_cases h : code a = 0x7F800000
  · rw [if_pos (decide_eq_true h), if_pos h, Nat.cast_pow, Nat.cast_ofNat]
  · rw [if_neg (by rwa [decide_eq_true_iff]), if_neg h]

/-- Up to the code of infinity extended values rise with the code; infinity lies beyond the end of the last binade. -/
theorem extOfCode_strictMonoOn : StrictMonoOn extOfCode (Set.Iic 0x7F800000) := by
  intro c _ d hd hcd
  have hd : d ≤ 0x7F800000 := hd
  have hc : c ≠ 0x7F800000 := by omega
  have hmag := magOfCode_strictMono hcd
  rw [extOfCode, if_neg hc, extOfCode]
  split
  next h =>
    have hinf : magOfCode 0x7F800000 = 2 ^ 23 * 2 ^ 254 :=
      magOfCode_significand (j := 254) (n := 2 ^ 23) (by norm_num) (.inr le_rfl)
    calc magOfCode c < 2 ^ 23 * 2 ^ 254 := by rwa [h, hinf] at hmag
      _ < 2 ^ 24 * 2 ^ 254 := Nat.mul_lt_mul_of_pos_right (by norm_num) (by positivity)
      _ = 2 ^ 278 := by rw [show 278 = 24 + 254 from rfl, Nat.pow_add]
  next => exact hmag

theorem code_le_of_not_isNaN (ha : isNaN a = false) : code a ≤ 0x7F800000 := by
  simpa [isNaN_eq] using ha

section NoNaN

variable (ha : isNaN a = false) (hb : isNaN b = false)
include ha hb

theorem extOfCode_lt_iff : extOfCode (code a) < extOfCode (code b) ↔ code a < code b :=
  extOfCode_strictMonoOn.lt_iff_lt (code_le_of_not_isNaN ha) (code_le_of_not_isNaN hb)

theorem extOfCode_eq_iff : extOfCode (code a) = extOfCode (code b) ↔ code a = code b :=
  extOfCode_strictMonoOn.injOn.eq_iff (code_le_of_not_isNaN ha) (code_le_of_not_isNaN hb)

theorem ext_le_of_key_le (h : key a ≤ key b) : ext a ≤ ext b := by
  have hlt := extOfCode_lt_iff hb ha
  have hgt := extOfCode_lt_iff ha hb
  rw [key_eq, key_eq] at h
  rw [ext_eq, ext_eq]
  cases hsa : sign a <;> cases hsb : sign b <;> simp only [hsa, hsb, Bool.false_eq_true, if_true, if_false] at h ⊢ <;> omega

/-- Extended values agree on equal patterns and on the two zeros. -/
theorem ext_eq_iff : ext a = ext b ↔ a = b ∨ (isZero a = true ∧ isZero b = true) := by
  have hcode := extOfCode_eq_iff ha hb
  have hzero {w : Word} (hw : isNaN w = false) : extOfCode (code w) = 0 ↔ code w = 0 :=
    extOfCode_strictMonoOn.injOn.eq_iff (y := 0) (code_le_of_not_isNaN hw) (Set.mem_Iic.mpr (Nat.zero_le _))
  have hza := hzero ha
  have hzb := hzero hb
  simp only [isZero_eq, decide_eq_true_iff]
  rw [ext_eq, ext_eq]
  constructor
  · intro h
    by_cases hs : sign a = sign b
    · refine .inl (eq_of_sign_code hs (hcode.mp ?_))
      rw [hs] at h
      split at h <;> omega
    · refine .inr ?_
      cases hsa : sign a <;> cases hsb : sign b <;> simp [hsa, hsb] at h hs <;> omega
  · rintro (rfl | ⟨h1, h2⟩)
    · rfl
    · rw [hza.mpr h1, hzb.mpr h2]
      simp

theorem ext_lt_iff_of_nonneg (hsa : sign a = false) (hsb : sign b = false) : ext a < ext b ↔ a.toNat < b.toNat := by
  have h := extOfCode_lt_iff ha hb
  simp [ext_eq, toNat_eq_sign_code, hsa, hsb, h]

theorem ext_lt_iff_of_neg (hsa : sign a = true) (hsb : sign b = true) : ext a < ext b ↔ b.toNat < a.toNat := by
  have h := extOfCode_lt_iff hb ha
  simp [ext_eq, toNat_eq_sign_code, hsa, hsb, h]

end NoNaN

theorem ext_nonpos (h : sign a = true) : ext a ≤ 0 := by simp [ext_eq, h]

theorem ext_nonneg (h : sign a = false) : 0 ≤ ext a := by simp [ext_eq, h]

/-! ### Minimum and maximum (R278) -/

theorem minMax_snd (a b pick : Word) : (minMax a b pick).2 = nanFlags2 a b := by
  unfold minMax
  split_ifs <;> rfl

theorem minMax_of_left_isNaN (pick : Word) (ha : isNaN a = true) (hb : isNaN b = false) : (minMax a b pick).1 = b := by
  simp [minMax, ha, hb]

theorem minMax_of_right_isNaN (pick : Word) (ha : isNaN a = false) (hb : isNaN b = true) : (minMax a b pick).1 = a := by
  simp [minMax, ha, hb]

theorem minMax_of_isNaN (pick : Word) (ha : isNaN a = true) (hb : isNaN b = true) : (minMax a b pick).1 = cnan := by
  simp [minMax, ha, hb]

theorem minMax_of_not_isNaN (pick : Word) (ha : isNaN a = false) (hb : isNaN b = false) : (minMax a b pick).1 = pick := by
  simp [minMax, ha, hb]

theorem minMax_mem {pick : Word} (hpick : pick = a ∨ pick = b) :
    (minMax a b pick).1 = a ∨ (minMax a b pick).1 = b ∨ (minMax a b pick).1 = cnan := by
  unfold minMax
  split_ifs <;> simp [hpick, ← or_assoc]

section NoNaN

variable (ha : isNaN a = false) (hb : isNaN b = false)
include ha hb

theorem fmin32_eq_ite : (fmin32 a b).1 = if key a ≤ key b then a else b := minMax_of_not_isNaN _ ha hb

theorem fmax32_eq_ite : (fmax32 a b).1 = if key a ≥ key b then a else b := minMax_of_not_isNaN _ ha hb

theorem isNaN_fmin32 : isNaN (fmin32 a b).1 = false := by
  rw [fmin32_eq_ite ha hb]
  split <;> assumption

theorem isNaN_fmax32 : isNaN (fmax32 a b).1 = false := by
  rw [fmax32_eq_ite ha hb]
  split <;> assumption

theorem ext_fmin32 : ext (fmin32 a b).1 = min (ext a) (ext b) := by
  rw [fmin32_eq_ite ha hb]
  split
  next h => exact (min_eq_left (ext_le_of_key_le ha hb h)).symm
  next h => exact (min_eq_right (ext_le_of_key_le hb ha (not_le.mp h).le)).symm

theorem ext_fmax32 : ext (fmax32 a b).1 = max (ext a) (ext b) := by
  rw [fmax32_eq_ite ha hb]
  split
  next h => exact (max_eq_left (ext_le_of_key_le hb ha h)).symm
  next h => exact (max_eq_right (ext_le_of_key_le ha hb (not_le.mp h).le)).symm

/-- Minus zero lies below plus zero, as every other negative pattern does. -/
theorem minMax_of_signs (hsa : sign a = true) (hsb : sign b = false) : (fmin32 a b).1 = a ∧ (fmax32 a b).1 = b := by
  have hkey : key a < key b := by
    rw [key_eq, key_eq, if_pos hsa, if_neg (by simp [hsb])]
    omega
  exact ⟨by rw [fmin32_eq_ite ha hb, if_pos hkey.le], by rw [fmax32_eq_ite ha hb, if_neg (not_le.mpr hkey)]⟩

end NoNaN

/-! ### Comparisons (R279) -/

theorem feq32_of_not_isNaN (ha : isNaN a = false) (hb : isNaN b = false) :
    feq32 a b = (if ext a = ext b then 1#32 else 0#32, .empty) := by
  simp [feq32, ha, hb, bool01]

theorem flt32_of_not_isNaN (ha : isNaN a = false) (hb : isNaN b = false) :
    flt32 a b = (if ext a < ext b then 1#32 else 0#32, .empty) := by
  simp [flt32, ha, hb, bool01]

theorem fle32_of_not_isNaN (ha : isNaN a = false) (hb : isNaN b = false) :
    fle32 a b = (if ext a ≤ ext b then 1#32 else 0#32, .empty) := by
  simp [fle32, ha, hb, bool01]

theorem compares_of_isNaN (h : isNaN a = true ∨ isNaN b = true) :
    feq32 a b = (0#32, nanFlags2 a b) ∧ flt32 a b = (0#32, .onlyNv) ∧ fle32 a b = (0#32, .onlyNv) := by
  rw [← Bool.or_eq_true] at h
  exact ⟨if_pos h, if_pos h, if_pos h⟩

theorem not_isNaN_of_flt32 (h : (flt32 a b).1 = 1#32) : isNaN a = false ∧ isNaN b = false := by
  by_contra hnan
  rw [← Bool.or_eq_false_iff, Bool.not_eq_false, Bool.or_eq_true] at hnan
  simp [(compares_of_isNaN hnan).2.1] at h

theorem not_isNaN_of_feq32 (h : (feq32 a b).1 = 1#32) : isNaN a = false ∧ isNaN b = false := by
  by_contra hnan
  rw [← Bool.or_eq_false_iff, Bool.not_eq_false, Bool.or_eq_true] at hnan
  simp [(compares_of_isNaN hnan).1] at h

/-! ### Classes (R282) -/

/-- The rows of R282's table: each class is a range of patterns. -/
theorem fclass32_cases (a : Word) :
    (fclass32 a = 0x001#32 ∧ a.toNat = 0xFF800000) ∨
    (fclass32 a = 0x002#32 ∧ 0x80800000 ≤ a.toNat ∧ a.toNat ≤ 0xFF7FFFFF) ∨
    (fclass32 a = 0x004#32 ∧ 0x80000001 ≤ a.toNat ∧ a.toNat ≤ 0x807FFFFF) ∨
    (fclass32 a = 0x008#32 ∧ a.toNat = 0x80000000) ∨
    (fclass32 a = 0x010#32 ∧ a.toNat = 0) ∨
    (fclass32 a = 0x020#32 ∧ 0x00000001 ≤ a.toNat ∧ a.toNat ≤ 0x007FFFFF) ∨
    (fclass32 a = 0x040#32 ∧ 0x00800000 ≤ a.toNat ∧ a.toNat ≤ 0x7F7FFFFF) ∨
    (fclass32 a = 0x080#32 ∧ a.toNat = 0x7F800000) ∨
    (fclass32 a = 0x100#32 ∧
      ((0x7F800001 ≤ a.toNat ∧ a.toNat ≤ 0x7FBFFFFF) ∨ (0xFF800001 ≤ a.toNat ∧ a.toNat ≤ 0xFFBFFFFF))) ∨
    (fclass32 a = 0x200#32 ∧ ((0x7FC00000 ≤ a.toNat ∧ a.toNat ≤ 0x7FFFFFFF) ∨ 0xFFC00000 ≤ a.toNat)) := by
  have hlt := code_lt a
  have hnat := toNat_eq_sign_code a
  simp only [fclass32, isSNaN_eq, isNaN_eq, isInf_eq, isZero_eq, isSub_eq, decide_eq_true_iff]
  -- Each branch of the definition is one row, for either sign.
  cases hs : sign a <;> simp only [hs, Bool.false_eq_true, if_true, if_false] at hnat ⊢ <;> split_ifs <;> simp <;> omega

theorem fclass32_eq_two_pow (a : Word) : ∃ k, k < 10 ∧ fclass32 a = BitVec.ofNat 32 (2 ^ k) := by
  obtain ⟨h, -⟩ | ⟨h, -⟩ | ⟨h, -⟩ | ⟨h, -⟩ | ⟨h, -⟩ | ⟨h, -⟩ | ⟨h, -⟩ | ⟨h, -⟩ | ⟨h, -⟩ | ⟨h, -⟩ := fclass32_cases a
  · exact ⟨0, by norm_num, h⟩
  · exact ⟨1, by norm_num, h⟩
  · exact ⟨2, by norm_num, h⟩
  · exact ⟨3, by norm_num, h⟩
  · exact ⟨4, by norm_num, h⟩
  · exact ⟨5, by norm_num, h⟩
  · exact ⟨6, by norm_num, h⟩
  · exact ⟨7, by norm_num, h⟩
  · exact ⟨8, by norm_num, h⟩
  · exact ⟨9, by norm_num, h⟩

/-- The rows exclude each other, so each class is its range and no more. -/
theorem fclass32_rows (a : Word) :
    (fclass32 a = 0x001#32 ↔ a = 0xFF800000#32) ∧
    (fclass32 a = 0x002#32 ↔ 0x80800000 ≤ a.toNat ∧ a.toNat ≤ 0xFF7FFFFF) ∧
    (fclass32 a = 0x004#32 ↔ 0x80000001 ≤ a.toNat ∧ a.toNat ≤ 0x807FFFFF) ∧
    (fclass32 a = 0x008#32 ↔ a = 0x80000000#32) ∧
    (fclass32 a = 0x010#32 ↔ a = 0x00000000#32) ∧
    (fclass32 a = 0x020#32 ↔ 0x00000001 ≤ a.toNat ∧ a.toNat ≤ 0x007FFFFF) ∧
    (fclass32 a = 0x040#32 ↔ 0x00800000 ≤ a.toNat ∧ a.toNat ≤ 0x7F7FFFFF) ∧
    (fclass32 a = 0x080#32 ↔ a = 0x7F800000#32) ∧
    (fclass32 a = 0x100#32 ↔ (0x7F800001 ≤ a.toNat ∧ a.toNat ≤ 0x7FBFFFFF) ∨ (0xFF800001 ≤ a.toNat ∧ a.toNat ≤ 0xFFBFFFFF)) ∧
    (fclass32 a = 0x200#32 ↔ (0x7FC00000 ≤ a.toNat ∧ a.toNat ≤ 0x7FFFFFFF) ∨ 0xFFC00000 ≤ a.toNat) ∧
    (∃ k, k < 10 ∧ fclass32 a = BitVec.ofNat 32 (2 ^ k)) := by
  simp only [← BitVec.toNat_inj (x := a), BitVec.toNat_ofNat, ← and_assoc]
  refine ⟨?_, fclass32_eq_two_pow a⟩
  obtain ⟨h, hr⟩ | ⟨h, hr⟩ | ⟨h, hr⟩ | ⟨h, hr⟩ | ⟨h, hr⟩ | ⟨h, hr⟩ | ⟨h, hr⟩ | ⟨h, hr⟩ | ⟨h, hr⟩ | ⟨h, hr⟩ := fclass32_cases a
  all_goals rw [h]; simp; omega

end Sys2Proof.Machine.Fp
end

section
/-! SUPPORT. What does not depend on the order of two operands (44_fp_numerics.md R272, R278). -/

namespace Sys2Proof.Machine.Fp

theorem nanFlags2_comm (a b : Word) : nanFlags2 a b = nanFlags2 b a := by rw [nanFlags2, Bool.or_comm, nanFlags2]

theorem eq_of_isInf {a b : Word} (ha : isInf a = true) (hb : isInf b = true) (hs : sign a = sign b) : a = b := by
  simp only [isInf_eq, decide_eq_true_iff] at ha hb
  exact eq_of_sign_code hs (ha.trans hb.symm)

theorem fadd32_comm (a b : Word) (m : RoundingMode) : fadd32 a b m = fadd32 b a m := by
  have hinv : (isInf a && isInf b && sign a != sign b) = (isInf b && isInf a && sign b != sign a) := by
    rw [Bool.and_comm (isInf a), bne_comm]
  have hzero : (if sign a = sign b then zero (sign a) else cancelZero m) =
      if sign b = sign a then zero (sign b) else cancelZero m := by
    by_cases h : sign a = sign b
    · rw [h]
    · rw [if_neg h, if_neg (Ne.symm h)]
  unfold fadd32
  rw [Bool.or_comm, nanFlags2_comm, hinv, add_comm (num a), hzero]
  split
  next => rfl
  next =>
    split
    next => rfl
    next hvalid =>
      by_cases ha : isInf a = true
      · by_cases hb : isInf b = true
        · rw [eq_of_isInf ha hb (by simp_all)]
        · rw [if_pos ha, if_neg hb, if_pos ha]
      · rw [if_neg ha, if_neg ha]

/-- Neither choice between two patterns depends on their order: patterns of one key are the same. -/
theorem ite_key_le_comm {a b x y : Word} (h : key a = key b → x = y) :
    (if key a ≤ key b then x else y) = if key b ≤ key a then y else x := by
  obtain hlt | heq | hgt := lt_trichotomy (key a) (key b)
  · rw [if_pos hlt.le, if_neg (not_le.mpr hlt)]
  · rw [if_pos heq.le, if_pos heq.ge, h heq]
  · rw [if_neg (not_le.mpr hgt), if_pos hgt.le]

theorem minMax_comm {a b p q : Word} (h : p = q) : minMax a b p = minMax b a q := by
  subst h
  unfold minMax
  cases isNaN a <;> cases isNaN b <;> simp [nanFlags2_comm a b]

end Sys2Proof.Machine.Fp
end

section
/-! SUPPORT. The five flags as bits, and words with bits added (10_state.md R29; 44_fp_numerics.md R275). -/

namespace Sys2Proof.Machine

theorem toNat_bits (F : FpFlags) : F.bits.toNat =
    (if F.nv then 16 else 0) + (if F.dz then 8 else 0) + (if F.ovf then 4 else 0) + (if F.unf then 2 else 0) +
      (if F.nx then 1 else 0) := by
  obtain ⟨nv, dz, ovf, unf, nx⟩ := F
  cases nv <;> cases dz <;> cases ovf <;> cases unf <;> cases nx <;> rfl

theorem and_or_self (w v : Word) : w &&& (w ||| v) = w := by
  rw [BitVec.and_comm]
  exact or_and_eq_of_and_eq BitVec.and_self v

theorem accrue_empty (s : State) : s.accrue .empty = s := by simp [State.accrue, bits_empty]

end Sys2Proof.Machine
end

section
/-! PROOFS. The obligations about order, classes, commutativity and flag accrual (44_fp_numerics.md R275, R278, R279, R282, R289). -/

namespace Sys2Proof.Machine.Fp

/-- Settles O59: keys and extended values follow sign and code, and so do the ranges of the classes. -/
theorem orderAndClassLawsHold : Obligations.OrderAndClassLawsHold := by
  intro a b
  refine ⟨minMax_mem (ite_eq_or_eq ..), minMax_mem (ite_eq_or_eq ..), minMax_snd .., by rw [fmax32, fmin32, minMax_snd, minMax_snd],
    fun ha hb => ⟨minMax_of_right_isNaN _ ha hb, minMax_of_right_isNaN _ ha hb⟩,
    fun ha hb => ⟨minMax_of_left_isNaN _ ha hb, minMax_of_left_isNaN _ ha hb⟩,
    fun ha hb => ⟨minMax_of_isNaN _ ha hb, minMax_of_isNaN _ ha hb⟩,
    fun ha hb => ⟨ext_fmin32 ha hb, ext_fmax32 ha hb, ?_, ?_⟩, fun hsa hsb ha hb => minMax_of_signs ha hb hsa hsb, compares_of_isNaN,
    fun ha hb => ⟨feq32_of_not_isNaN ha hb, flt32_of_not_isNaN ha hb, fle32_of_not_isNaN ha hb, ext_eq_iff ha hb,
      ext_lt_iff_of_nonneg ha hb, ext_lt_iff_of_neg ha hb, fun hsa hsb => ⟨ext_nonpos hsa, ext_nonneg hsb⟩⟩,
    fun hlt => ?_, fun heq => ?_, fclass32_rows a⟩
  · rw [fle32_of_not_isNaN (isNaN_fmin32 ha hb) (isNaN_fmax32 ha hb), ext_fmin32 ha hb, ext_fmax32 ha hb]
    exact if_pos min_le_max
  · rw [fle32_of_not_isNaN ha hb, flt32_of_not_isNaN hb ha]
    obtain h | h := le_or_gt (ext a) (ext b)
    · simp [h, not_lt.mpr h]
    · simp [h, not_le.mpr h]
  · obtain ⟨ha, hb⟩ := not_isNaN_of_flt32 hlt
    have h : ext a < ext b := by simpa [flt32_of_not_isNaN ha hb] using hlt
    exact ⟨by simp [fle32_of_not_isNaN ha hb, h.le], by simp [feq32_of_not_isNaN ha hb, h.ne]⟩
  · obtain ⟨ha, hb⟩ := not_isNaN_of_feq32 heq
    have h : ext a = ext b := by simpa [feq32_of_not_isNaN ha hb] using heq
    simp [fle32_of_not_isNaN ha hb, h]

end Sys2Proof.Machine.Fp
end

section
/-! PROOFS. The obligations about commutativity and about flag accrual (44_fp_numerics.md R275, R289). -/

namespace Sys2Proof.Machine.Fp

/-- Settles O55: each operation is symmetric in its operands, infinities of one sign and patterns of one key being the same pattern. -/
theorem floatOperationsCommute : Obligations.FloatOperationsCommute := by
  intro a b m
  refine ⟨fadd32_comm a b m, ?_, minMax_comm (ite_key_le_comm eq_of_key_eq),
    minMax_comm (ite_key_le_comm fun h => (eq_of_key_eq h).symm), ?_⟩
  · unfold fmul32
    rw [Bool.or_comm (isNaN a), nanFlags2_comm, Bool.or_comm (isInf a), Bool.or_comm (isZero a), Bool.xor_comm (sign a),
      Nat.mul_comm (mag a)]
  · simp only [feq32, Bool.or_comm (isNaN a), nanFlags2_comm a, eq_comm (a := ext a)]

end Sys2Proof.Machine.Fp

namespace Sys2Proof.Machine

/-- Settles O43: `accrue` is two ORs with the five bits. -/
theorem accrualOrsTheFlags : Obligations.AccrualOrsTheFlags := by
  intro s F
  refine ⟨⟨rfl, rfl, rfl⟩, toNat_bits F, and_or_self .., and_or_self .., fun hnv hdz hovf hunf hnx => ?_, sameX_of s _ rfl,
    sameF_of s _ rfl, sameRam_of s _ rfl, ⟨⟨rfl, rfl, rfl, rfl, rfl, rfl⟩, ⟨rfl, rfl⟩, rfl, rfl⟩⟩
  obtain ⟨nv, dz, ovf, unf, nx⟩ := F
  subst hnv hdz hovf hunf hnx
  exact accrue_empty s

end Sys2Proof.Machine
end

section
/-! SUPPORT. How a floating-point instruction ends once its rounding mode is settled, and the sign of a pattern by bits
(44_fp_numerics.md R262; 45_fp_instructions.md R312 to R314, R327). -/

namespace Sys2Proof.Machine

/-! ### The effective rounding mode -/

section
variable {s : State} {rm : RmField} {m : RoundingMode}

theorem withMode_of_effRm (h : s.effRm rm = some m) (run : RoundingMode → State → State) : withMode rm run s = .next (run m s) := by
  simp only [withMode, h]

theorem withMode_of_effRm_none (h : s.effRm rm = none) (run : RoundingMode → State → State) :
    withMode rm run s = .next (s.raise .illegalInstruction) := by
  simp only [withMode, h]

theorem completesF_withMode (h : s.effRm rm = some m) (rd : FReg) (f : RoundingMode → Word × FpFlags) :
    CompletesF rd (f m).1 (f m).2 s (withMode rm (fun k => finishF rd (f k)) s) := by
  rw [withMode_of_effRm h]
  exact completesF_finishF s rd (f m)

theorem completesXF_withMode (h : s.effRm rm = some m) (rd : XReg) (f : RoundingMode → Word × FpFlags) :
    CompletesXF rd (f m).1 (f m).2 s (withMode rm (fun k => finishX rd (f k)) s) := by
  rw [withMode_of_effRm h]
  exact completesXF_finishX s rd (f m)

/-- A register write of `w`, whatever term computes it. -/
theorem completesF_writeF_of_eq (s : State) (rd : FReg) {v w : Word} (h : v = w) : CompletesF rd w .empty s (writeF rd v s) :=
  h ▸ completesF_writeF s rd v

/-- A raised `IllegalInstruction` traps, or halts under `HALT_ON_RESERVED` (60_exceptions.md R372). -/
theorem traps_or_halts_raise_illegalInstruction (s : State) :
    (s.cfg.haltOnReserved = false → Traps .illegalInstruction s (.next (s.raise .illegalInstruction))) ∧
      (s.cfg.haltOnReserved = true → Halts .reservedInstruction s (.next (s.raise .illegalInstruction))) := by
  constructor
  · intro h
    rw [State.raise, h]
    exact traps_trapEntry s _
  · intro h
    rw [State.raise, h]
    exact halts_haltWith s _

end

/-! ### Sign injection: a pattern as a sign bit above 31 others -/

theorem eq_signBit_append (a : Word) : a = a.extractLsb' 31 1 ++ a.extractLsb' 0 31 := by
  rw [BitVec.extractLsb'_append_extractLsb'_eq_extractLsb' (by norm_num)]
  simp

/-- Without its sign bit a pattern has the sign 0. -/
theorem and_low31_eq_append (a : Word) : a &&& 0x7FFFFFFF#32 = 0#1 ++ a.extractLsb' 0 31 := by
  conv_lhs => rw [eq_signBit_append a]
  rw [show (0x7FFFFFFF#32 : Word) = 0#1 ++ BitVec.allOnes 31 from rfl, BitVec.and_append, BitVec.and_zero, BitVec.and_allOnes]

/-- The sign bit alone. -/
theorem and_sign_eq_append (a : Word) : a &&& 0x80000000#32 = a.extractLsb' 31 1 ++ 0#31 := by
  conv_lhs => rw [eq_signBit_append a]
  rw [show (0x80000000#32 : Word) = BitVec.allOnes 1 ++ 0#31 from rfl, BitVec.and_append, BitVec.and_allOnes, BitVec.and_zero]

/-- FSGNJ.S (R312). -/
theorem injectSign_eq_append (a b : Word) :
    (a &&& 0x7FFFFFFF#32) ||| (b &&& 0x80000000#32) = b.extractLsb' 31 1 ++ a.extractLsb' 0 31 := by
  rw [and_low31_eq_append, and_sign_eq_append, BitVec.or_append, BitVec.zero_or, BitVec.or_zero]

/-- FSGNJX.S (R314). -/
theorem xorSign_eq_append (a b : Word) :
    a ^^^ (b &&& 0x80000000#32) = (a.extractLsb' 31 1 ^^^ b.extractLsb' 31 1) ++ a.extractLsb' 0 31 := by
  conv_lhs => rw [eq_signBit_append a]
  rw [and_sign_eq_append, BitVec.xor_append, BitVec.xor_zero]

end Sys2Proof.Machine
end

section
/-! PROOFS. The obligations about rounding modes, sign injection, moves, minimum and maximum, comparisons and conversions
(45_fp_instructions.md). -/

namespace Sys2Proof.Machine

/-- Settles O45: the mode is asked first, so that each of the thirteen answers with the raised kind. -/
theorem invalidRoundingModeIsIllegal : Obligations.InvalidRoundingModeIsIllegal := by
  intro s d a b c x rm hnone i hi
  have hraise : exec i s = .next (s.raise .illegalInstruction) := by
    revert i
    simp only [List.forall_mem_cons]
    have h := withMode_of_effRm_none hnone
    exact ⟨h _, h _, h _, h _, h _, h _, h _, h _, h _, h _, h _, h _, h _, by simp⟩
  rw [hraise]
  exact traps_or_halts_raise_illegalInstruction s

/-- Settles O48: each is a register write without flags; the signs are injected by bits. -/
theorem signsMovesAndClassComplete : Obligations.SignsMovesAndClassComplete := by
  rintro s d ra rb x a b _ rfl ha hb
  rw [← readF32_eq_setWidth] at ha hb
  subst ha hb
  have hnot (v : Word) : (~~~v).extractLsb' 31 1 = ~~~(v.extractLsb' 31 1) := by
    ext i hi
    simp [show 31 + i < 32 by omega]
  exact ⟨completesF_writeF_of_eq s d (injectSign_eq_append _ _),
    completesF_writeF_of_eq s d ((injectSign_eq_append _ _).trans (by rw [hnot])),
    completesF_writeF_of_eq s d (xorSign_eq_append _ _), completesXF_writeX s x _, completesF_writeF s d _,
    completesXF_writeX s x _⟩

/-- Settles O49: none of the five asks for a rounding mode. -/
theorem minMaxAndComparesComplete : Obligations.MinMaxAndComparesComplete := by
  intro s d ra rb x a b ha hb
  rw [← readF32_eq_setWidth] at ha hb
  subst ha hb
  exact ⟨completesF_finishF s d _, completesF_finishF s d _, completesXF_finishX s x _, completesXF_finishX s x _,
    completesXF_finishX s x _⟩

/-- Settles O50: the mode given, each conversion completes; an integer is rounded from its signed or its unsigned value. -/
theorem conversionsComplete : Obligations.ConversionsComplete := by
  intro s d ra x rm m a w hm ha hw
  rw [← readF32_eq_setWidth] at ha
  subst ha hw
  refine ⟨completesXF_withMode hm x _, completesXF_withMode hm x _, completesF_withMode hm d _, completesF_withMode hm d _,
    fun hzero => ?_, fun hne => ⟨if_neg fun h => hne (BitVec.eq_of_toInt_eq h), if_neg fun h => hne (BitVec.eq_of_toNat_eq h)⟩⟩
  rw [hzero]
  exact ⟨rfl, rfl⟩

end Sys2Proof.Machine
end

section
/-! SUPPORT. What the arithmetic functions deliver on operands that are no NaN (44_fp_numerics.md R267, R272 to R277). -/

namespace Sys2Proof.Machine.Fp

variable {a b c : Word} {m : RoundingMode}

/-! ### Values and infinities -/

@[simp] theorem num_xor_signBit (a : Word) (s : Bool) : num (a ^^^ signBit s) = if s then -num a else num a := by
  have hmag : mag (a ^^^ signBit s) = mag a := by rw [mag_eq, code_xor_signBit, mag_eq]
  rw [num, num, hmag, sign_xor_signBit]
  cases s <;> cases sign a <;> simp

theorem num_eq_zero_iff (a : Word) : num a = 0 ↔ isZero a = true := by
  rw [← mag_eq_zero_iff, num]
  split <;> omega

theorem isFinite_xor_signBit (s : Bool) (h : IsFinite a) : IsFinite (a ^^^ signBit s) := by
  rwa [IsFinite, isNaN_xor_signBit, isInf_xor_signBit]

theorem isZero_of_isInf (h : isInf a = true) : isZero a = false := by simp_all [isInf_eq, isZero_eq]

theorem eq_inf_of_isInf (h : isInf a = true) : a = inf (sign a) :=
  eq_of_sign_code (by simp) (by simpa [isInf_eq] using h)

theorem unit_mul_unit : unit * unit = 2 ^ 298 := by rw [unit, ← pow_add]

/-! ### Adder (R272) -/

theorem fadd32_of_isFinite (ha : IsFinite a) (hb : IsFinite b) : fadd32 a b m =
    if num a + num b = 0 then (if sign a = sign b then zero (sign a) else cancelZero m, .empty)
    else roundSigned (num a + num b) unit m := by
  simp [fadd32, ha.1, ha.2, hb.1, hb.2]

theorem fadd32_of_num_eq_zero (ha : IsFinite a) (hb : IsFinite b) (h : num a + num b = 0) :
    fadd32 a b m = (zero (if sign a ^^ sign b then decide (m = .rdn) else sign a), .empty) := by
  rw [fadd32_of_isFinite ha hb, if_pos h, cancelZero]
  cases sign a <;> cases sign b <;> rfl

theorem fadd32_of_num_ne_zero (ha : IsFinite a) (hb : IsFinite b) (h : num a + num b ≠ 0) :
    fadd32 a b m = roundSigned (num a + num b) unit m := by
  rw [fadd32_of_isFinite ha hb, if_neg h]

theorem fadd32_of_isInf_left (ha : isInf a = true) (hb : isNaN b = false) (h : isInf b = true → (sign a ^^ sign b) = false) :
    fadd32 a b m = (a, .empty) := by
  have hvalid : (isInf a && isInf b && sign a != sign b) = false := by cases hi : isInf b <;> simp_all
  rw [fadd32, isNaN_of_isInf ha, hb, hvalid, ha]
  rfl

theorem fadd32_of_isInf_right (ha : IsFinite a) (hb : isInf b = true) : fadd32 a b m = (b, .empty) := by
  rw [fadd32_comm]
  exact fadd32_of_isInf_left hb ha.1 fun h => absurd h (by simp [ha.2])

/-- A difference is a sum with the sign of `b` inverted. -/
theorem fsub32_eq_fadd32 : fsub32 a b m = fadd32 a (b ^^^ signBit true) m := rfl

theorem num_sub_eq (a b : Word) : num a - num b = num a + num (b ^^^ signBit true) := by
  rw [num_xor_signBit, if_pos rfl, sub_eq_add_neg]

theorem fsub32_of_num_eq_zero (ha : IsFinite a) (hb : IsFinite b) (h : num a - num b = 0) :
    fsub32 a b m = (zero (if sign a ^^ sign b then sign a else decide (m = .rdn)), .empty) := by
  rw [fsub32_eq_fadd32, fadd32_of_num_eq_zero ha (isFinite_xor_signBit true hb) (num_sub_eq a b ▸ h), sign_xor_signBit]
  cases sign a <;> cases sign b <;> rfl

theorem fsub32_of_num_ne_zero (ha : IsFinite a) (hb : IsFinite b) (h : num a - num b ≠ 0) :
    fsub32 a b m = roundSigned (num a - num b) unit m := by
  rw [num_sub_eq] at h ⊢
  exact fadd32_of_num_ne_zero ha (isFinite_xor_signBit true hb) h

theorem fsub32_of_isInf_left (ha : isInf a = true) (hb : isNaN b = false) (h : isInf b = true → (sign a ^^ sign b) = true) :
    fsub32 a b m = (a, .empty) := by
  rw [fsub32_eq_fadd32]
  exact fadd32_of_isInf_left ha (by simpa using hb) fun hi => by simpa using h (by simpa using hi)

theorem fsub32_of_isInf_right (ha : IsFinite a) (hb : isInf b = true) : fsub32 a b m = (inf (!sign b), .empty) := by
  have hinf : isInf (b ^^^ signBit true) = true := by rwa [isInf_xor_signBit]
  rw [fsub32_eq_fadd32, fadd32_of_isInf_right ha hinf, eq_inf_of_isInf hinf, sign_xor_signBit, Bool.xor_true]

/-! ### Multiplier and divider (R273, R274) -/

theorem fmul32_of_mag_eq_zero (ha : IsFinite a) (hb : IsFinite b) (h : mag a = 0 ∨ mag b = 0) :
    fmul32 a b m = (zero (sign a ^^ sign b), .empty) := by
  simp [fmul32, ha.1, ha.2, hb.1, hb.2, h]

theorem fmul32_of_mag_ne_zero (ha : IsFinite a) (hb : IsFinite b) (hza : mag a ≠ 0) (hzb : mag b ≠ 0) :
    fmul32 a b m = round32 (sign a ^^ sign b) ⟨mag a * mag b, 2 ^ 298⟩ m := by
  rw [← unit_mul_unit]
  simp [fmul32, ha.1, ha.2, hb.1, hb.2, hza, hzb]

theorem fmul32_of_isInf (ha : isNaN a = false) (hb : isNaN b = false) (h : isInf a = true ∨ isInf b = true)
    (hza : isZero a = false) (hzb : isZero b = false) : fmul32 a b m = (inf (sign a ^^ sign b), .empty) := by
  simp [fmul32, ha, hb, h, hza, hzb]

theorem fdiv32_of_mag_ne_zero (ha : IsFinite a) (hb : IsFinite b) (hza : mag a ≠ 0) (hzb : mag b ≠ 0) :
    fdiv32 a b m = round32 (sign a ^^ sign b) ⟨mag a, mag b⟩ m := by
  rw [ne_eq, mag_eq_zero_iff] at hza hzb
  simp [fdiv32, ha.1, ha.2, hb.1, hb.2, hza, hzb]

theorem fdiv32_of_mag_eq_zero (ha : IsFinite a) (hb : IsFinite b) (hza : mag a = 0) (hzb : mag b ≠ 0) :
    fdiv32 a b m = (zero (sign a ^^ sign b), .empty) := by
  rw [ne_eq, mag_eq_zero_iff] at hzb
  rw [mag_eq_zero_iff] at hza
  simp [fdiv32, ha.1, ha.2, hb.1, hb.2, hza, hzb]

theorem fdiv32_of_isInf_left (ha : isInf a = true) (hb : IsFinite b) : fdiv32 a b m = (inf (sign a ^^ sign b), .empty) := by
  simp [fdiv32, isNaN_of_isInf ha, ha, hb.1, hb.2]

theorem fdiv32_of_isInf_right (ha : IsFinite a) (hb : isInf b = true) : fdiv32 a b m = (zero (sign a ^^ sign b), .empty) := by
  simp [fdiv32, isNaN_of_isInf hb, hb, ha.1, ha.2]

/-! ### Square root (R276) -/

theorem fsqrt32_of_isInf (ha : isInf a = true) (hs : sign a = false) : fsqrt32 a m = (a, .empty) := by
  simp [fsqrt32, isNaN_of_isInf ha, isZero_of_isInf ha, hs, ha]

theorem fsqrt32_of_isFinite (ha : IsFinite a) (hs : sign a = false) (hz : isZero a = false) :
    fsqrt32 a m = round32 false (sqrtFrac a) m := by
  simp [fsqrt32, ha.1, ha.2, hs, hz]

/-! ### Fused multiply-add (R277) -/

/-- The exact value of the fused function on finite operands, in units of `2^-298`. -/
def fusedSum (a b c : Word) (negp negc : Bool) : Int :=
  (if negp then -1 else 1) * (num a * num b) + (if negc then -1 else 1) * (num c * 2 ^ 149)

/-- The sign of the product as it enters the sum. -/
def productSign (a b : Word) (negp : Bool) : Bool := (sign a ^^ sign b) ^^ negp

variable {negp negc : Bool}

theorem fusedSum_eq (a b c : Word) (negp negc : Bool) : fusedSum a b c negp negc =
    (if negp then -(num a * num b) else num a * num b) + num (c ^^^ signBit negc) * unit := by
  rw [fusedSum, num_xor_signBit, unit]
  cases negp <;> cases negc <;> simp

/-- A sum and a product that are 0 leave an addend that is 0. -/
theorem isZero_addend_of_fusedSum (hsum : fusedSum a b c negp negc = 0) (hprod : num a * num b = 0) :
    isZero (c ^^^ signBit negc) = true := by
  rw [fusedSum_eq, hprod, neg_zero, ite_self, zero_add] at hsum
  exact (num_eq_zero_iff _).mp ((mul_eq_zero.mp hsum).resolve_right (by norm_num [unit]))

theorem fma32_of_isFinite (ha : IsFinite a) (hb : IsFinite b) (hc : IsFinite c) : fma32 a b c m negp negc =
    if fusedSum a b c negp negc = 0 then
      (if num a * num b = 0 ∧ productSign a b negp = (sign c ^^ negc) then zero (productSign a b negp) else cancelZero m, .empty)
    else roundSigned (fusedSum a b c negp negc) (unit * unit) m := by
  have hprod : (if negp then -(num a * num b) else num a * num b) = 0 ↔ num a * num b = 0 := by cases negp <;> simp
  simp only [fma32, ha.1, ha.2, hb.1, hb.2, hc.1, hc.2, isInf_xor_signBit, sign_xor_signBit, Bool.false_and, Bool.and_false,
    Bool.or_false, Bool.false_eq_true, if_false, ← fusedSum_eq, hprod, productSign]
  by_cases hsum : fusedSum a b c negp negc = 0
  · rw [if_pos hsum, if_pos hsum]
    by_cases hp : num a * num b = 0
    · simp [hp, isZero_addend_of_fusedSum hsum hp]
    · simp [hp]
  · rw [if_neg hsum, if_neg hsum]

/-- An infinite product, to which the addend adds nothing of the other infinity. -/
theorem fma32_of_isInf_product (ha : isNaN a = false) (hb : isNaN b = false) (h : isInf a = true ∨ isInf b = true)
    (hza : isZero a = false) (hzb : isZero b = false)
    (hc : IsFinite c ∨ (isInf c = true ∧ (sign c ^^ negc) = productSign a b negp)) :
    fma32 a b c m negp negc = (inf (productSign a b negp), .empty) := by
  have hnan : isNaN c = false := hc.elim (fun h => h.1) fun h => isNaN_of_isInf h.1
  have hvalid : (isInf c && (sign c ^^ negc) != productSign a b negp) = false := by
    obtain hfin | ⟨-, hsign⟩ := hc
    · simp [hfin.2]
    · simp [hsign]
  have hinf : (isInf a || isInf b) = true := (Bool.or_eq_true _ _).mpr h
  rw [productSign] at hvalid ⊢
  simp only [fma32, isInf_xor_signBit, sign_xor_signBit, hza, hzb, ha, hb, hnan, hinf, hvalid, Bool.and_false, Bool.false_and,
    Bool.or_false, Bool.false_eq_true, if_false, if_true]

theorem fma32_of_isInf_addend (ha : IsFinite a) (hb : IsFinite b) (hc : isInf c = true) :
    fma32 a b c m negp negc = (inf (sign c ^^ negc), .empty) := by
  have hcc : isInf (c ^^^ signBit negc) = true := by rwa [isInf_xor_signBit]
  rw [← sign_xor_signBit, ← eq_inf_of_isInf hcc]
  simp only [fma32, hcc, ha.1, ha.2, hb.1, hb.2, isNaN_of_isInf hc, Bool.and_false, Bool.false_and, Bool.or_false,
    Bool.false_eq_true, if_false, if_true]

end Sys2Proof.Machine.Fp
end

section
/-! PROOFS. The obligations about floating-point arithmetic instructions (45_fp_instructions.md R303 to R311). -/

namespace Sys2Proof.Machine.Fp

/-- Settles O46: the four differ in their sign controls; `fma32` rounds `fusedSum`, and an infinite term decides before that. -/
theorem fusedMultiplyAddsComplete : Obligations.FusedMultiplyAddsComplete := by
  intro s d ra rb rc rm m a b c hm ha hb hc
  rw [← readF32_eq_setWidth] at ha hb hc
  subst ha hb hc
  refine ⟨completesF_withMode hm d _, completesF_withMode hm d _, completesF_withMode hm d _, completesF_withMode hm d _, ?value⟩
  case value =>
    rintro negp negc _ _ v rfl rfl hv
    obtain rfl : v = fusedSum _ _ _ negp negc := hv
    refine ⟨fun ha hb hc => ?finite, fun h ha hb hza hzb hc => fma32_of_isInf_product ha hb h hza hzb hc, fma32_of_isInf_addend⟩
    case finite =>
      rw [fma32_of_isFinite ha hb hc, unit_mul_unit]
      refine ⟨fun hv => if_neg hv, fun hv hp hs => ?_, fun hv hzero => ?_⟩
      · rw [if_pos hv]
        exact congrArg (·, FpFlags.empty) (if_pos ⟨hp, hs⟩)
      · rw [if_pos hv]
        exact congrArg (·, FpFlags.empty) (if_neg hzero)

/-- Settles O47: the value clauses are those of one lemma for each function; a difference is a sum with the sign of `b` inverted. -/
theorem floatArithmeticCompletes : Obligations.FloatArithmeticCompletes := by
  intro s d ra rb rm m a b hm ha hb
  rw [← readF32_eq_setWidth] at ha hb
  subst ha hb
  refine ⟨completesF_withMode hm d _, completesF_withMode hm d _, completesF_withMode hm d _, completesF_withMode hm d _,
    completesF_withMode hm d _, ?value⟩
  case value =>
    rintro _ rfl
    refine ⟨fun ha hb => ?finite, fun ha hb => ?leftInf, fun ha hb => ?rightInf, fun ha hs hz => ?root⟩
    case finite =>
      exact ⟨fadd32_of_num_ne_zero ha hb, fadd32_of_num_eq_zero ha hb, fsub32_of_num_ne_zero ha hb, fsub32_of_num_eq_zero ha hb,
        fun hza hzb => ⟨fmul32_of_mag_ne_zero ha hb hza hzb, fdiv32_of_mag_ne_zero ha hb hza hzb⟩,
        fmul32_of_mag_eq_zero ha hb, fdiv32_of_mag_eq_zero ha hb⟩
    case leftInf =>
      exact ⟨fun hib hs => fadd32_of_isInf_left ha hb fun _ => hs,
        fun hib hs => fsub32_of_isInf_left ha hb fun _ => hs,
        fun hib => ⟨fadd32_of_isInf_left ha hb (by simp [hib]), fsub32_of_isInf_left ha hb (by simp [hib]),
          fdiv32_of_isInf_left ha ⟨hb, hib⟩⟩,
        fmul32_of_isInf (isNaN_of_isInf ha) hb (.inl ha) (isZero_of_isInf ha)⟩
    case rightInf =>
      exact ⟨fadd32_of_isInf_right ha hb, fsub32_of_isInf_right ha hb, fdiv32_of_isInf_right ha hb,
        fun hza => fmul32_of_isInf ha.1 (isNaN_of_isInf hb) (.inr hb) hza (isZero_of_isInf hb)⟩
    case root =>
      exact ⟨fun hi => fsqrt32_of_isInf hi hs, fun hi => fsqrt32_of_isFinite ⟨ha, hi⟩ hs hz⟩

end Sys2Proof.Machine.Fp
end

section
/-! SUPPORT. How a tick ends, by what stops it or what its fetch gives (60_exceptions.md R351, R360, R370), and how a raised kind ends
under the two halt options (R372, R373). -/

namespace Sys2Proof.Machine

variable {s u : State}

/-! ### Step 1 of a tick (R371, R374, R380) -/

theorem haltTest_of_stopRequested (h : s.stopRequested = true) : s.haltTest = some .stopRequest := by
  simp [State.haltTest, h]

theorem haltTest_of_sentinel (hstop : s.stopRequested = false) (h : s.cfg.haltPc = some s.pc) : s.haltTest = some .sentinel := by
  simp [State.haltTest, hstop, h]

theorem PassesStepOne.haltTest_eq_none (h : PassesStepOne s) : s.haltTest = none := by
  simp [State.haltTest, h.noStop, h.noSentinel]

/-! ### How a tick ends -/

theorem step_of_halted (h : s.halted = true) : step s = .next s := by simp [step, State.beginTick, h]

theorem step_of_haltTest_eq_some {r : HaltReason} (hrun : s.halted = false) (h : s.haltTest = some r) :
    step s = .next (s.haltWith r) := by
  simp [step, State.beginTick, hrun, h]

theorem interruptHook_of_not_irqAnswers (h : s.irqAnswers = false) : s.interruptHook = s := by simp [State.interruptHook, h]

theorem step_of_fetchDecode_raised (hpass : PassesStepOne s) (h : s.interruptHook.fetchDecode = .raised u) :
    step s = .next u.endTick := by
  simp [step, State.beginTick, hpass.running, hpass.haltTest_eq_none, h]

theorem eq_asked_of_memRead_eq_some {type : AccessType} {a w : Word} (h : s.memRead type a = (some w, u)) :
    u = s.asked (readReq a type) := by
  rcases memRead_cases type a s with ⟨v, hread⟩ | hread
  · exact congrArg Prod.snd (h.symm.trans hread)
  · simp [h] at hread

/-- A fetched word that is no instruction raises `IllegalInstruction` (R351). -/
theorem fetchDecode_of_rejected {w : Word} {r : Reject} (hread : s.memRead .instructionWord s.pc = (some w, u))
    (hdec : decode w = .rejected r) : s.fetchDecode = .raised (u.raise .illegalInstruction) := by
  simp only [State.fetchDecode, hread, hdec]

/-! ### The kinds that an option turns into a halt -/

theorem raise_illegalInstruction_of_not_haltOnReserved (h : s.cfg.haltOnReserved = false) :
    s.raise .illegalInstruction = s.trapEntry .illegalInstruction := by
  simp [State.raise, h]

theorem raise_illegalInstruction_of_haltOnReserved (h : s.cfg.haltOnReserved = true) :
    s.raise .illegalInstruction = s.haltWith .reservedInstruction := by
  simp [State.raise, h]

theorem raise_ecall_of_not_haltOnEcall (h : s.cfg.haltOnEcall = false) : s.raise .ecall = s.trapEntry .ecall := by
  simp [State.raise, h]

theorem raise_ecall_of_haltOnEcall (h : s.cfg.haltOnEcall = true) : s.raise .ecall = s.haltWith .ecall := by
  simp [State.raise, h]

/-- A trap after a served access, which the fault flag does not see. -/
theorem trapped_asked_trapEntry (s : State) (k : TrapCause) (req : ExtRequest) : Trapped k s ((s.asked req).trapEntry k) :=
  ⟨rfl, rfl, rfl, sameX_of s _ rfl, sameF_of s _ rfl, ⟨rfl, rfl, rfl⟩, sameRam_of s _ rfl, rfl, ⟨rfl, rfl, rfl, rfl, rfl, rfl⟩⟩

end Sys2Proof.Machine
end

section
/-! PROOFS. The obligations about traps and halts (60_exceptions.md). -/

namespace Sys2Proof.Machine

/-- Settles O16: the fetch asks the callback and no more, and decode's rejection raises the one kind that the option decides. -/
theorem illegalWordTrapsOrHalts : Obligations.IllegalWordTrapsOrHalts := by
  intro s w u r hpass hirq hread hdec
  have hfetch : s.interruptHook.fetchDecode = .raised (u.raise .illegalInstruction) := by
    rw [interruptHook_of_not_irqAnswers hirq]
    exact fetchDecode_of_rejected hread hdec
  have hstep := step_of_fetchDecode_raised hpass hfetch
  obtain rfl := eq_asked_of_memRead_eq_some hread
  refine ⟨fun hopt => ?traps, fun hopt => ?halts⟩
  case traps =>
    rw [raise_illegalInstruction_of_not_haltOnReserved (s := s.asked _) hopt] at hstep
    exact ⟨_, hstep, trapped_asked_trapEntry s _ _, rfl⟩
  case halts =>
    rw [raise_illegalInstruction_of_haltOnReserved (s := s.asked _) hopt] at hstep
    exact ⟨_, hstep, rfl, rfl, sameX_of s _ rfl, sameF_of s _ rfl, ⟨rfl, rfl, rfl⟩, sameRam_of s _ rfl, ⟨rfl, rfl⟩,
      ⟨rfl, rfl, rfl, rfl, rfl, rfl⟩, rfl⟩

/-- Settles O28: every load is `loadThen` at its effective address, whatever it would write. -/
theorem unservedLoadsTrap : Obligations.UnservedLoadsTrap := by
  intro s rd rs1 fd imm a ha
  obtain rfl : s.effAddr rs1 imm = a := (effAddr_eq_trunc32 s rs1 imm).trans ha.symm
  have hload (type : AccessType) (put : Word → State → State) := trapsOnAccess_loadThen s type (s.effAddr rs1 imm) put
  exact ⟨fun h => ⟨hload .byte _ h, hload .byte _ h⟩, fun h => ⟨hload .halfword _ h, hload .halfword _ h⟩,
    fun h => ⟨hload .word _ h, hload .word _ h⟩⟩

/-- Settles O31: every store is `storeThen` at its effective address. -/
theorem unservedStoresTrap : Obligations.UnservedStoresTrap := by
  rintro s rs1 rs2 fs2 imm a rfl
  have hstore (type : AccessType) (v : Word) := trapsOnAccess_storeThen s type (s.effAddr rs1 imm) v
  exact ⟨hstore .byte _, hstore .halfword _, hstore .word _, readF32_eq_setWidth s fs2 ▸ hstore .word _⟩

/-- Settles O11: step 1 asks for a halt, then for a stop request, then for the sentinel. -/
theorem haltConditionsComeFirst : Obligations.HaltConditionsComeFirst :=
  ⟨fun _ hhalted => step_of_halted hhalted,
    fun _ hrun hstop => step_of_haltTest_eq_some hrun (haltTest_of_stopRequested hstop),
    fun _ hrun hstop hpc => step_of_haltTest_eq_some hrun (haltTest_of_sentinel hstop hpc)⟩

/-- Settles O35: FENCE is a move of `pc`, and the option decides how the kind that ECALL raises ends. -/
theorem fenceEcallEbreakEnd : Obligations.FenceEcallEbreakEnd := by
  intro s ignored
  refine ⟨?fence, fun hopt => ?traps, fun hopt => ?halts, traps_trapEntry s .ebreak⟩
  case fence =>
    rw [← add_four_eq_trunc32]
    exact completesPc_next s _
  case traps =>
    rw [exec, execEcall, raise_ecall_of_not_haltOnEcall hopt]
    exact traps_trapEntry s .ecall
  case halts =>
    rw [exec, execEcall, raise_ecall_of_haltOnEcall hopt]
    exact halts_haltWith s .ecall

end Sys2Proof.Machine
end

section
/-! SUPPORT. The run loop's steps as the obligations name them: step 1, the hook, the fetch and what it hands to `exec`
(60_exceptions.md R360, R364, R365). -/

namespace Sys2Proof.Machine

variable {s u v : State}

/-! ### The reset command (70_reset_and_hazards.md R401) -/

theorem readX_resetCommand (s : State) (r : XReg) : s.resetCommand.readX r = 0#32 := by
  simp [State.readX, State.resetCommand]

theorem readF_resetCommand (s : State) (r : FReg) : s.resetCommand.readF r = 0#64 := by
  simp [State.readF, State.resetCommand]

theorem State.Inv.resetCommand (h : s.Inv) : s.resetCommand.Inv where
  cfg := h.cfg
  memory := h.memory
  inRam := h.inRam
  x0 := rfl
  fpCsr := ⟨Nat.zero_lt_succ _, Nat.zero_lt_succ _, rfl⟩
  misa := h.misa
  faultFlag := rfl

/-! ### Step 1 and the cycle counter -/

theorem passesStepOne_of_haltTest (hrun : s.halted = false) (h : s.haltTest = none) : PassesStepOne s := by
  unfold State.haltTest at h
  split_ifs at h with hstop hpc
  exact ⟨hrun, by simpa using hstop, hpc⟩

theorem not_passesStepOne_of_haltTest {r : HaltReason} (h : s.haltTest = some r) : ¬ PassesStepOne s := fun hpass => by
  simp [hpass.haltTest_eq_none] at h

/-- A tick that goes on past step 1 ends in one cycle more, after updates of which none counts; any other tick counts nothing. -/
theorem step_cycle_cases (s : State) : ∃ t, step s = .next t ∧
    ((PassesStepOne s ∧ t.cycle = s.cycle + 1) ∨ (¬ PassesStepOne s ∧ t.cycle = s.cycle)) := by
  rcases step_cases s with ⟨hhalt, hs⟩ | ⟨-, r, ht, hs⟩ | ⟨hrun, ht, ⟨u, hf, hs⟩ | ⟨i, u, hf, hs⟩⟩
  · exact ⟨s, hs, .inr ⟨fun hpass => by simp [hpass.running] at hhalt, rfl⟩⟩
  · exact ⟨_, hs, .inr ⟨not_passesStepOne_of_haltTest ht, rfl⟩⟩
  · have hupd := (updates_interruptHook false false s).trans (updates_of_fetchDecode_raised _ _ hf)
    exact ⟨_, hs, .inl ⟨passesStepOne_of_haltTest hrun ht, congrArg (· + 1) hupd.sameFixed.cycle⟩⟩
  · obtain ⟨v, hv, hexec⟩ := exec_endsUpdated i u
    obtain rfl := eq_asked_of_fetchDecode_instr hf
    have hupd := ((updates_interruptHook _ _ s).asked _).trans hexec
    exact ⟨v.endTick, by rw [hs, hv], .inl ⟨passesStepOne_of_haltTest hrun ht, congrArg (· + 1) hupd.sameFixed.cycle⟩⟩

/-! ### Steps 2 to 5: the hook, the fetch, the execution -/

theorem interruptHook_of_irqAnswers (h : s.irqAnswers = true) : s.interruptHook = s.trapEntry .interrupt := by
  simp [State.interruptHook, h, State.raise]

theorem fetchDecode_of_ok {w : Word} {i : Instr} (hread : s.memRead .instructionWord s.pc = (some w, u)) (hdec : decode w = .ok i) :
    s.fetchDecode = .instr i u := by
  simp only [State.fetchDecode, hread, hdec]

/-- A fetch that is not served enters the trap, its fault flag consumed (R353, R354). -/
theorem fetchDecode_of_notServed (h : NotServed (readReq s.pc .instructionWord) s) : s.fetchDecode = .raised
    (({ s.asked (readReq s.pc .instructionWord) with faultFlag := false } : State).trapEntry .accessFaultFetch) := by
  simp only [State.fetchDecode, memRead_fault .instructionWord s.pc s h]
  rfl

theorem step_of_fetchDecode_instr {i : Instr} (hpass : PassesStepOne s) (hfetch : s.interruptHook.fetchDecode = .instr i u)
    (hexec : exec i u = .next v) : TickEnds v (step s) := by
  have hend : step s = .next v.endTick := by
    simp [step, State.beginTick, hpass.running, hpass.haltTest_eq_none, hfetch, hexec]
  exact hend

/-! ### The fetched word (30_encoding.md R90, 20_memory.md R67) -/

theorem wordOfBytes_toNat (b0 b1 b2 b3 : Byte) :
    (wordOfBytes b0 b1 b2 b3).toNat = b0.toNat + 256 * b1.toNat + 256 ^ 2 * b2.toNat + 256 ^ 3 * b3.toNat := by
  have h0 := b0.isLt
  have h1 := b1.isLt
  have h2 := b2.isLt
  simp only [wordOfBytes, BitVec.toNat_append]
  rw [← Nat.shiftLeft_add_eq_or_of_lt h2, ← Nat.shiftLeft_add_eq_or_of_lt h1, ← Nat.shiftLeft_add_eq_or_of_lt h0]
  simp only [Nat.shiftLeft_eq]
  omega

/-- The word that four bytes of RAM make is the number that a fetch reads. -/
theorem wordOfBytes_ramByte (s : State) (a : Word) :
    wordOfBytes (s.ramByte (byteAddr a 0)) (s.ramByte (byteAddr a 1)) (s.ramByte (byteAddr a 2)) (s.ramByte (byteAddr a 3)) =
      BitVec.ofNat 32 (s.leNat a 4) := by
  rw [← trunc32_natCast, ← trunc32_toNat (wordOfBytes ..), wordOfBytes_toNat]
  simp [State.leNat]

/-- What the fetch of a served word hands to decode. -/
theorem memRead_instructionWord_of_decode {i : Instr}
    (h : ServedByRam (readReq s.pc .instructionWord) s ∧
        (decodeBytes [s.ramByte (byteAddr s.pc 0), s.ramByte (byteAddr s.pc 1), s.ramByte (byteAddr s.pc 2),
        s.ramByte (byteAddr s.pc 3)]).1 = .ok i ∨
      ServedByExt (readReq s.pc .instructionWord) s ∧ decode (s.reply (readReq s.pc .instructionWord)).dataOut = .ok i) :
    ∃ w, s.memRead .instructionWord s.pc = (some w, s.asked (readReq s.pc .instructionWord)) ∧ decode w = .ok i := by
  obtain ⟨hram, hdec⟩ | ⟨hext, hdec⟩ := h
  · rw [decodeBytes, wordOfBytes_ramByte] at hdec
    exact ⟨_, memRead_ram .instructionWord s.pc s hram, hdec⟩
  · exact ⟨_, memRead_ext .instructionWord s.pc s hext, by rwa [show AccessType.instructionWord.bytes = AccessType.word.bytes from rfl,
      lowBytes_word]⟩

end Sys2Proof.Machine
end

section
/-! PROOFS. The obligations about the reset command and about what a tick does (70_reset_and_hazards.md R401; 60_exceptions.md R354,
R360, R364, R365). -/

namespace Sys2Proof.Machine

/-- Settles O8: the command writes out every field that it clears and no other. -/
theorem resetCommandClearsAllButMisa : Obligations.ResetCommandClearsAllButMisa := fun s =>
  ⟨readX_resetCommand s, readF_resetCommand s, rfl, rfl, rfl, rfl, rfl, rfl, rfl, rfl, rfl, rfl, rfl, rfl, rfl, State.Inv.resetCommand⟩

/-- Settles O10: whichever way a tick goes, it ends in a next state. -/
theorem everyStepAnswersNext : Obligations.EveryStepAnswersNext := fun s =>
  let ⟨t, ht, _⟩ := step_cycle_cases s
  ⟨t, ht⟩

/-- Settles O12: the tick counts once, at its end, and only when it got past step 1. -/
theorem cycleCounterCountsRanTicks : Obligations.CycleCounterCountsRanTicks := by
  intro s t hstep
  obtain ⟨u, hu, hcycle⟩ := step_cycle_cases s
  obtain rfl : u = t := by simpa [hu] using hstep
  obtain ⟨hpass, hcount⟩ | ⟨hnot, hkept⟩ := hcycle
  · exact ⟨fun _ => hcount, fun hnot => absurd hpass hnot⟩
  · exact ⟨fun hpass => absurd hpass hnot, fun _ => hkept⟩

/-- Settles O13: with no interrupt the hook leaves the state alone, and the fetch hands the decoded word to `exec`. -/
theorem stepRunsTheDecodedInstruction : Obligations.StepRunsTheDecodedInstruction := by
  rintro s _ i hpass hirq hword rfl
  refine ⟨fun hext => ?_, ?_⟩
  · obtain ⟨⟩ := s
    simp_all
  · obtain ⟨w, hread, hdec⟩ := memRead_instructionWord_of_decode hword
    obtain ⟨v, hv, -⟩ := exec_endsUpdated i (s.asked (readReq s.pc .instructionWord))
    have hfetch := congrArg State.fetchDecode (interruptHook_of_not_irqAnswers hirq)
    have hend : step s = _ := step_of_fetchDecode_instr hpass (hfetch.trans (fetchDecode_of_ok hread hdec)) hv
    rw [State.asked] at hv
    rw [hend, hv]

/-- Settles O14: the tick goes on from the state that the trap of the interrupt leaves, whose `pc` is MTVEC. -/
theorem interruptRedirectsTheTick : Obligations.InterruptRedirectsTheTick := by
  intro s r hpass hirq hr
  obtain rfl : r = s.trapEntry .interrupt := hr
  have hfetch := congrArg State.fetchDecode (interruptHook_of_irqAnswers hirq)
  refine ⟨fun w u v i hread hdec hexec => ?_, fun hnot => ?_, fun w u k hread hdec => ?_, fun halways t hstep _ => ?_⟩
  · exact step_of_fetchDecode_instr hpass (hfetch.trans (fetchDecode_of_ok hread hdec)) hexec
  · exact ⟨_, step_of_fetchDecode_raised hpass (hfetch.trans (fetchDecode_of_notServed hnot)), trapped_asked _ _ _, rfl⟩
  · have hend := step_of_fetchDecode_raised hpass (hfetch.trans (fetchDecode_of_rejected hread hdec))
    obtain rfl := eq_asked_of_memRead_eq_some hread
    refine ⟨fun hopt => ?traps, fun hopt => ?halts⟩
    case traps =>
      rw [raise_illegalInstruction_of_not_haltOnReserved (s := (s.trapEntry .interrupt).asked _) hopt] at hend
      exact ⟨_, hend, trapped_asked_trapEntry _ _ _, rfl, rfl⟩
    case halts =>
      rw [raise_illegalInstruction_of_haltOnReserved (s := (s.trapEntry .interrupt).asked _) hopt] at hend
      exact ⟨_, hend, rfl, rfl, rfl, rfl, sameX_of s _ rfl, sameF_of s _ rfl, ⟨rfl, rfl, rfl⟩, sameRam_of s _ rfl,
        ⟨rfl, rfl, rfl, rfl, rfl, rfl⟩, rfl⟩
  · obtain ⟨hcfg, -, -, -, hkept⟩ := noStepChangesWhatIsFixed s t hstep
    have htirq : t.irqAnswers = true := by rw [State.irqAnswers, hkept, halways, answer_always]
    refine ⟨hkept.trans halways, htirq, ?_⟩
    rw [interruptHook_of_irqAnswers htirq, State.trapEntry, hcfg]

/-- Settles O15: the fetch that is not served raises its kind before anything is decoded. -/
theorem fetchFaultTraps : Obligations.FetchFaultTraps := by
  intro s hpass hirq hnot
  have hfetch := congrArg State.fetchDecode (interruptHook_of_not_irqAnswers hirq)
  have hend := step_of_fetchDecode_raised hpass (hfetch.trans (fetchDecode_of_notServed hnot))
  exact ⟨_, hend, trapped_asked s _ _, rfl, rfl⟩

end Sys2Proof.Machine
end

section
/-! SUPPORT. The three ways an instruction ends (60_exceptions.md R361, R381), and the shared operations that end in them. -/

namespace Sys2Proof.Machine

/-- An instruction that can raise `kind` ends in `t`: it completes with the trap bookkeeping and the halt alone, or it traps with
`kind` and none of its writes, or it halts, where an option says so, with none of its writes. -/
def EndsPrecisely (kind : Option TrapCause) (s t : State) : Prop :=
  (SameTrap s t ∧ t.halt = s.halt ∧ t.faultFlag = s.faultFlag) ∨
    (∃ k, kind = some k ∧ Trapped k s t) ∨
    ∃ r, (kind = some .illegalInstruction ∧ r = HaltReason.reservedInstruction ∧ s.cfg.haltOnReserved = true ∨
        kind = some .ecall ∧ r = HaltReason.ecall ∧ s.cfg.haltOnEcall = true) ∧ Halts r s (.next t)

/-- The answer is a next state in which the instruction ended precisely. -/
def AnswersPrecisely (kind : Option TrapCause) (s : State) (res : Result) : Prop := ∃ t, res = .next t ∧ EndsPrecisely kind s t

section
variable {kind : Option TrapCause} {s t : State}

theorem endsPrecisely_of_sameRun (h : SameRun s t) : EndsPrecisely kind s t := .inl ⟨h.trap, h.halt, h.faultFlag⟩

theorem endsPrecisely_of_trapped {k : TrapCause} (h : Trapped k s t) : EndsPrecisely (some k) s t := .inr (.inl ⟨k, rfl, h⟩)

variable (kind s)

theorem answersPrecisely_writeX (rd : XReg) (v : Word) : AnswersPrecisely kind s (writeX rd v s) :=
  let ⟨t, ht, _, _, _, _, _, _, hrun⟩ := completesX_writeX s rd v
  ⟨t, ht, endsPrecisely_of_sameRun hrun⟩

theorem answersPrecisely_jump (rd : XReg) (v target : Word) : AnswersPrecisely kind s (.next ((s.setX rd v).setPc target)) :=
  let ⟨t, ht, _, _, _, _, _, _, hrun⟩ := completesX_next s target rd v
  ⟨t, ht, endsPrecisely_of_sameRun hrun⟩

theorem answersPrecisely_branchIf (taken : Bool) (offset : Word) : AnswersPrecisely kind s (branchIf taken offset s) :=
  let ⟨t, ht, _, _, _, _, _, _, hrun⟩ := completesPc_branchIf s taken offset
  ⟨t, ht, endsPrecisely_of_sameRun hrun⟩

theorem answersPrecisely_advance : AnswersPrecisely kind s (.next s.advance) :=
  let ⟨t, ht, _, _, _, _, _, _, hrun⟩ := completesPc_advance s
  ⟨t, ht, endsPrecisely_of_sameRun hrun⟩

theorem answersPrecisely_writeF (rd : FReg) (v : Word) : AnswersPrecisely kind s (writeF rd v s) :=
  let ⟨t, ht, _, _, _, _, _, _, hrun⟩ := completesF_writeF s rd v
  ⟨t, ht, endsPrecisely_of_sameRun hrun⟩

theorem answersPrecisely_finishF (rd : FReg) (rF : Word × FpFlags) : AnswersPrecisely kind s (.next (finishF rd rF s)) :=
  let ⟨t, ht, _, _, _, _, _, _, hrun⟩ := completesF_finishF s rd rF
  ⟨t, ht, endsPrecisely_of_sameRun hrun⟩

theorem answersPrecisely_finishX (rd : XReg) (rF : Word × FpFlags) : AnswersPrecisely kind s (.next (finishX rd rF s)) :=
  let ⟨t, ht, _, _, _, _, _, _, hrun⟩ := completesXF_finishX s rd rF
  ⟨t, ht, endsPrecisely_of_sameRun hrun⟩

variable {kind}

/-- With a mode the instruction runs; without one `IllegalInstruction` traps or halts. -/
theorem answersPrecisely_withMode (rm : RmField) (run : RoundingMode → State → State)
    (hrun : ∀ m, AnswersPrecisely (some .illegalInstruction) s (.next (run m s))) :
    AnswersPrecisely (some .illegalInstruction) s (withMode rm run s) := by
  obtain ⟨m, -, h⟩ | ⟨-, h⟩ := withMode_cases rm run s
  · rw [h]
    exact hrun m
  · cases hopt : s.cfg.haltOnReserved
    · rw [raise_illegalInstruction_of_not_haltOnReserved hopt] at h
      exact ⟨_, h, endsPrecisely_of_trapped (trapped_trapEntry s _)⟩
    · rw [raise_illegalInstruction_of_haltOnReserved hopt] at h
      exact ⟨_, h, .inr (.inr ⟨_, .inl ⟨rfl, rfl, hopt⟩, halts_haltWith s _⟩)⟩

theorem answersPrecisely_ecall : AnswersPrecisely (some .ecall) s (.next (s.raise .ecall)) := by
  cases hopt : s.cfg.haltOnEcall
  · rw [raise_ecall_of_not_haltOnEcall hopt]
    exact ⟨_, rfl, endsPrecisely_of_trapped (trapped_trapEntry s _)⟩
  · rw [raise_ecall_of_haltOnEcall hopt]
    exact ⟨_, rfl, .inr (.inr ⟨_, .inr ⟨rfl, rfl, hopt⟩, halts_haltWith s _⟩)⟩

/-- A load that is not served traps before its register write; the write of one that is leaves the run loop's state alone. -/
theorem answersPrecisely_loadThen (type : AccessType) (a : Word) (put : Word → State → State)
    (hput : ∀ v t, SameTrap t (put v t) ∧ (put v t).halt = t.halt ∧ (put v t).faultFlag = t.faultFlag) :
    AnswersPrecisely (some .accessFaultLoad) s (loadThen type a put s) := by
  obtain ⟨v, h⟩ | h := loadThen_cases type a put s
  · exact ⟨_, h, .inl (hput v (s.asked (readReq a type)))⟩
  · exact ⟨_, h, endsPrecisely_of_trapped (trapped_asked s _ _)⟩

theorem answersPrecisely_loadThen_setX (type : AccessType) (a : Word) (rd : XReg) (extend : Word → Word) :
    AnswersPrecisely (some .accessFaultLoad) s (loadThen type a (fun v => State.setX rd (extend v)) s) :=
  answersPrecisely_loadThen s type a _ fun _ _ => ⟨⟨setX_trapPc .., setX_trapCause ..⟩, setX_halt .., setX_faultFlag ..⟩

theorem answersPrecisely_storeThen (type : AccessType) (a v : Word) :
    AnswersPrecisely (some .accessFaultStore) s (storeThen type a v s) := by
  obtain ⟨-, h⟩ | h | h := storeThen_cases type a v s
  · exact ⟨_, h, .inl ⟨⟨rfl, rfl⟩, rfl, rfl⟩⟩
  · exact ⟨_, h, .inl ⟨⟨rfl, rfl⟩, rfl, rfl⟩⟩
  · exact ⟨_, h, endsPrecisely_of_trapped (trapped_asked s _ _)⟩

theorem answersPrecisely_csrAccess (rd : XReg) (addr : CsrAddr) (new : Word → Option Word) :
    AnswersPrecisely (some .illegalCsr) s (csrAccess rd addr new s) := by
  cases hc : csrOfAddr addr with
  | none =>
    obtain ⟨t, ht, htrap, -⟩ := traps_csrAccess s rd addr new hc
    exact ⟨t, ht, endsPrecisely_of_trapped htrap⟩
  | some c =>
    obtain ⟨t, ht, -, -, -, -, -, hrun, -⟩ := completesCsr_csrAccess s rd addr new c hc
    exact ⟨t, ht, endsPrecisely_of_sameRun hrun⟩

end

/-- Every instruction ends precisely, with the one kind that it can raise. -/
theorem exec_answersPrecisely (i : Instr) (s : State) : AnswersPrecisely i.raises s (exec i s) := by
  cases i with
  | lui | auipc | addi | slti | sltiu | xori | ori | andi | slli | srli | srai
  | add | sub | sll | slt | sltu | xor | srl | sra | or | and
  | mul | mulh | mulhsu | mulhu | div | divu | rem | remu | fmvXW | fclassS => exact answersPrecisely_writeX ..
  | jal | jalr => exact answersPrecisely_jump ..
  | beq | bne | blt | bge | bltu | bgeu => exact answersPrecisely_branchIf ..
  | lb | lh | lbu | lhu => exact answersPrecisely_loadThen_setX ..
  | lw => exact answersPrecisely_loadThen_setX s _ _ _ id
  | flw => exact answersPrecisely_loadThen s _ _ _ fun _ _ => ⟨⟨rfl, rfl⟩, rfl, rfl⟩
  | sb | sh | sw | fsw => exact answersPrecisely_storeThen ..
  | fence => exact answersPrecisely_advance ..
  | ecall => exact answersPrecisely_ecall s
  | ebreak => exact ⟨_, rfl, endsPrecisely_of_trapped (trapped_trapEntry s _)⟩
  | csrrw | csrrs | csrrc | csrrwi | csrrsi | csrrci =>
    simp only [exec, execCsrrw, execCsrrs, execCsrrc, execCsrrwi, execCsrrsi, execCsrrci]
    exact answersPrecisely_csrAccess ..
  | fmaddS | fmsubS | fnmsubS | fnmaddS | faddS | fsubS | fmulS | fdivS | fsqrtS | fcvtSW | fcvtSWu =>
    exact answersPrecisely_withMode _ _ _ fun _ => answersPrecisely_finishF ..
  | fcvtWS | fcvtWuS => exact answersPrecisely_withMode _ _ _ fun _ => answersPrecisely_finishX ..
  | fminS | fmaxS => exact answersPrecisely_finishF ..
  | feqS | fltS | fleS => exact answersPrecisely_finishX ..
  | fsgnjS | fsgnjnS | fsgnjxS | fmvWX => exact answersPrecisely_writeF ..

end Sys2Proof.Machine
end

section
/-! SUPPORT. A word stored and read back in parts (20_memory.md R68), the target of JALR (41_integer.md R153), the CSR addresses
(43_csr.md R231) and the numbers of the rounding modes (44_fp_numerics.md R262). -/

namespace Sys2Proof.Machine

/-! ### Reading back what was stored -/

section
variable {s t : State} {a v : Word}

theorem byteAddr_add (a : Word) (j i : Nat) : byteAddr (a + BitVec.ofNat 32 j) i = byteAddr a (j + i) := by
  rw [byteAddr, byteAddr, BitVec.add_assoc, ← BitVec.ofNat_add]

/-- The low `n` bytes of `v` above its byte `j`, little-endian, are read where they were stored. -/
theorem leNat_of_ramWritten {k : Nat} (h : RamWritten a v k s t) (j n : Nat) (hjn : j + n ≤ k) :
    t.leNat (a + BitVec.ofNat 32 j) n = v.toNat / 256 ^ j % 256 ^ n := by
  induction n with
  | zero => simp [State.leNat, Nat.mod_one]
  | succ n ih =>
    have hbyte : (t.ramByte (byteAddr a (j + n))).toNat = v.toNat / 256 ^ j / 256 ^ n % 256 := by
      rw [h.1 (j + n) (by omega), BitVec.extractLsb'_toNat, Nat.shiftRight_eq_div_pow, Nat.div_div_eq_div_mul, ← pow_add,
        pow_mul]
      norm_num
    rw [State.leNat, ih (by omega), byteAddr_add, hbyte, pow_succ, Nat.mod_mul]

theorem reply_of_ext_eq_none (h : s.ext = none) (q : ExtRequest) : s.reply q = .notHandled := by
  simp [State.reply, h]

/-- After a word is stored with no callback, every access within it reads its bytes (R68). -/
theorem memRead_of_memWrite_word (hext : s.ext = none) (h : ServedByRam (writeReq a v .word) s) (type : AccessType) (j : Nat)
    (hj : j + type.bytes ≤ 4) :
    ((s.memWrite .word a v).2.memRead type (a + BitVec.ofNat 32 j)).1 = some (lowBytes (v >>> (8 * j)) type.bytes) := by
  rw [memWrite_ram .word a v s h]
  set t : State := { s.asked (writeReq a v .word) with memory := storeBytes a v s.memory AccessType.word.bytes } with ht
  have hwritten : RamWritten a v 4 s t := ramWritten_storeBytes a v 4 le_rfl s t rfl
  have hserved : ServedByRam (readReq (a + BitVec.ofNat 32 j) type) t := by
    have hnone : t.ext = none := by simp [ht, State.asked, hext]
    refine ⟨by rw [reply_of_ext_eq_none hnone]; rfl, fun i (hi : i < type.bytes) => ?_⟩
    change inRam s.cfg (byteAddr (a + BitVec.ofNat 32 j) i) = true
    rw [byteAddr_add]
    exact h.2 (j + i) (show j + i < 4 by omega)
  rw [memRead_ram type _ t hserved, leNat_of_ramWritten hwritten j _ hj, lowBytes_eq _ _ (accessType_bytes_le type),
    BitVec.toNat_ushiftRight, Nat.shiftRight_eq_div_pow, pow_mul 2 8, pow_mul 2 8]
  rfl

/-- The part of a word above bit `k` has no more bits than are left. -/
theorem lowBytes_ushiftRight (v : Word) {k n : Nat} (hn : n ≤ 4) (h : 32 ≤ k + 8 * n) : lowBytes (v >>> k) n = v >>> k := by
  have hlt : (v >>> k).toNat < 2 ^ (8 * n) := by
    rw [BitVec.toNat_ushiftRight, Nat.shiftRight_eq_div_pow, Nat.div_lt_iff_lt_mul (by positivity), ← pow_add]
    exact v.isLt.trans_le (Nat.pow_le_pow_right (by norm_num) (by omega))
  rw [lowBytes_eq _ n hn, Nat.mod_eq_of_lt hlt, BitVec.ofNat_toNat, BitVec.setWidth_eq]

end

/-! ### The target of JALR -/

/-- Bit 0 of the sum cleared is the even number below it. -/
theorem jalrTarget_eq_trunc32 (s : State) (rs1 : XReg) (imm : Word) :
    s.jalrTarget rs1 imm = trunc32 (2 * (((s.readX rs1).toNat + imm.toNat) / 2)) := by
  apply BitVec.eq_of_toNat_eq
  have hnat : (2 * (((s.readX rs1).toNat + imm.toNat : Int) / 2)) = (2 * (((s.readX rs1).toNat + imm.toNat) / 2) : Nat) := by
    norm_cast
  rw [State.jalrTarget, show 0xFFFFFFFE#32 = BitVec.allOnes 32 <<< 1 from rfl, ← BitVec.shiftLeft_ushiftRight, hnat,
    trunc32_natCast, BitVec.toNat_shiftLeft, BitVec.toNat_ushiftRight, BitVec.toNat_add, BitVec.toNat_ofNat,
    Nat.shiftRight_eq_div_pow, Nat.shiftLeft_eq]
  omega

/-! ### The implemented addresses -/

theorem csrOfAddr_eq_none {addr : CsrAddr} (h : addr.toNat ∉ [0x001, 0x002, 0x003, 0x301]) : csrOfAddr addr = none := by
  unfold csrOfAddr
  split
  case h_5 => rfl
  all_goals simp at h

/-- On a word within the mask `m`, masks that agree within `m` act alike. -/
theorem and_eq_and_of_masked {w m k l : Word} (hw : w &&& m = w) (h : m &&& k = m &&& l) : w &&& k = w &&& l := by
  rw [← hw, BitVec.and_assoc, h, BitVec.and_assoc]

/-! ### The numbers of the modes -/

theorem RoundingMode.ofBits_eq_some_iff : ∀ (b : BitVec 3) (m : RoundingMode),
    RoundingMode.ofBits b = some m ↔ b.toNat = m.bits.toNat := by
  intro b m
  revert b
  cases m <;> decide

theorem RoundingMode.ofBits_eq_none_iff : ∀ b : BitVec 3, RoundingMode.ofBits b = none ↔ 5 ≤ b.toNat := by decide

end Sys2Proof.Machine
end

section
/-! PROOFS. The obligations about traps, mixed-width accesses, jumps, CSR addresses and read-back, and the rounding mode in effect
(60_exceptions.md R361, R381; 20_memory.md R68; 41_integer.md R152, R153; 43_csr.md R231, R246; 44_fp_numerics.md R262). -/

namespace Sys2Proof.Machine

/-- Settles O17: every instruction ends through one of the shared operations, each of which ends precisely. -/
theorem trapsArePrecise : Obligations.TrapsArePrecise := by
  intro i s t hexec
  obtain ⟨u, hu, hprecise⟩ := exec_answersPrecisely i s
  obtain rfl : u = t := by simpa [hu] using hexec
  exact hprecise

/-- Settles O23: each part is the word shifted down to its lowest byte. -/
theorem mixedWidthAccessesSeeTheSameBytes : Obligations.MixedWidthAccessesSeeTheSameBytes := by
  rintro s _ a v hext hserved rfl
  have hread := memRead_of_memWrite_word hext hserved
  have hzero (type : AccessType) : ((s.memWrite .word a v).2.memRead type a).1 = some (lowBytes v type.bytes) := by
    have h := hread type 0 ((Nat.zero_add _).trans_le (accessType_bytes_le type))
    rwa [show a + BitVec.ofNat 32 0 = a from BitVec.add_zero a, Nat.mul_zero, BitVec.ushiftRight_zero] at h
  have hword := hzero .word
  rw [lowBytes_word] at hword
  refine ⟨hzero .byte, hread .byte 1 (by decide), hread .byte 2 (by decide), ?_, hzero .halfword, hread .halfword 1 (by decide),
    ?_, hword, ?_⟩
  · rw [← lowBytes_ushiftRight v (k := 24) (n := 1) (by norm_num) (by norm_num)]
    exact hread .byte 3 (by decide)
  · rw [← lowBytes_ushiftRight v (k := 16) (n := 2) (by norm_num) (by norm_num)]
    exact hread .halfword 2 (by decide)
  · exact (hzero .instructionWord).trans (congrArg some (lowBytes_word v))

/-- Settles O25: both write the link and move `pc`; JALR's target is computed from the state before the link is written. -/
theorem jumpsLinkAndJump : Obligations.JumpsLinkAndJump := by
  intro s rd rs1 imm ignored
  rw [← add_eq_trunc32, ← add_four_eq_trunc32, ← jalrTarget_eq_trunc32]
  exact ⟨completesX_next s _ rd _, completesX_next s _ rd _⟩

/-- Settles O41: the six forms are `csrAccess`, which traps where no CSR has the address. -/
theorem unimplementedCsrTraps : Obligations.UnimplementedCsrTraps := by
  refine ⟨⟨rfl, rfl, rfl, rfl⟩, fun addr => csrOfAddr_eq_none, fun s rd rs1 uimm addr h => ?_⟩
  have htraps (new : Word → Option Word) := traps_csrAccess s rd addr new (csrOfAddr_eq_none h)
  simp only [exec, execCsrrw, execCsrrs, execCsrrc, execCsrrwi, execCsrrsi, execCsrrci]
  exact ⟨htraps _, htraps _, htraps _, htraps _, htraps _, htraps _⟩

/-- Settles O42: each cell keeps what the mask leaves of it, and the invariant says which of its bits are 0. -/
theorem csrReadBackIsConsistent : Obligations.CsrReadBackIsConsistent := by
  intro s w hs
  obtain ⟨hflags, hfrm, hfcsr⟩ := (fpCsrInv_iff s).mp hs
  obtain ⟨hflags1, hfrm1, hfcsr1⟩ := csrStored_csrWrite .fflags w s
  obtain ⟨hflags2, hfrm2, hfcsr2⟩ := csrStored_csrWrite .frm w s
  obtain ⟨hflags3, hfrm3, hfcsr3⟩ := csrStored_csrWrite .fcsr w s
  refine ⟨⟨?_, hflags3, hfrm3⟩, ⟨?_, hfrm1, ?_⟩, ⟨?_, hflags2, ?_⟩, fun c => ⟨csrWrite_misa .., hs.csrWrite c w⟩⟩
  · rwa [and_eq_zero_of_masked hs.fcsr_masked (by decide), BitVec.zero_or] at hfcsr3
  · rwa [and_eq_zero_of_masked hflags (by decide), BitVec.zero_or] at hflags1
  · rwa [and_eq_and_of_masked hs.fcsr_masked (l := 0xE0#32) (by decide)] at hfcsr1
  · rwa [and_eq_zero_of_masked hfrm (by decide), BitVec.zero_or] at hfrm2
  · rwa [and_eq_and_of_masked hs.fcsr_masked (l := 0x1F#32) (by decide), BitVec.or_comm] at hfcsr2

/-- Settles O44: the dynamic mode is the one whose number the low three bits of FRM are. -/
theorem effectiveRoundingMode : Obligations.EffectiveRoundingMode := by
  intro s m
  have hbits : (s.frm.extractLsb' 0 3).toNat = s.frm.toNat % 8 := by rw [BitVec.extractLsb'_toNat, Nat.shiftRight_zero]
  rw [← hbits]
  exact ⟨rfl, RoundingMode.ofBits_eq_some_iff _ m, RoundingMode.ofBits_eq_none_iff _⟩

end Sys2Proof.Machine

namespace Sys2Proof

/-- Settles O1: the table walk, run on each word. -/
theorem decodeOfExampleWords : Obligations.DecodeOfExampleWords := by
  unfold Obligations.DecodeOfExampleWords
  decide

end Sys2Proof
end

section
/-! SUPPORT. Signed quotients and remainders as integers modulo 2^32, and the two halves of a product (42_muldiv.md R212, R214, R216,
R220, R223). -/

namespace Sys2Proof.Machine

/-! ### The quotient rounded toward zero -/

/-- The magnitude of the quotient is the quotient of the magnitudes rounded down; its sign is the product of the signs. -/
theorem tdiv_eq_sign_mul (a b : Int) : a.tdiv b = a.sign * b.sign * (a.natAbs / b.natAbs : Nat) := by
  have hmag : (a.tdiv b).natAbs = a.natAbs / b.natAbs := Int.natAbs_tdiv a b
  rw [← Int.sign_mul_natAbs (a.tdiv b), hmag, Int.sign_tdiv]
  split
  next h => rw [Nat.div_eq_of_lt h, Nat.cast_zero, mul_zero, mul_zero]
  next => rfl

variable (a b : Word)

theorem divSigned_eq_trunc32 : divSigned a b =
    if b.toInt = 0 then 0xFFFFFFFF#32 else if a.toInt = -(2 ^ 31) ∧ b.toInt = -1 then 0x80000000#32
    else trunc32 (a.toInt.sign * b.toInt.sign * (a.toInt.natAbs / b.toInt.natAbs : Nat)) := by
  rw [divSigned, ← tdiv_eq_sign_mul, trunc32]

theorem remSigned_eq_trunc32 : remSigned a b =
    if b.toInt = 0 then a else if a.toInt = -(2 ^ 31) ∧ b.toInt = -1 then 0#32
    else trunc32 (a.toInt - b.toInt * (a.toInt.sign * b.toInt.sign * (a.toInt.natAbs / b.toInt.natAbs : Nat))) := by
  rw [remSigned, ← tdiv_eq_sign_mul, trunc32]

/-! ### Integers that a word holds -/

theorem toInt_trunc32 {n : Int} (hlo : -(2 ^ 31) ≤ n) (hhi : n < 2 ^ 31) : (trunc32 n).toInt = n := by
  rw [trunc32, BitVec.toInt_ofInt, Int.bmod_eq_of_le (by omega) (by omega)]

theorem toInt_bounds : -(2 ^ 31) ≤ a.toInt ∧ a.toInt < 2 ^ 31 := ⟨BitVec.le_toInt a, BitVec.toInt_lt (x := a)⟩

theorem toNat_trunc32 (n : Int) : ((trunc32 n).toNat : Int) = n % 2 ^ 32 := by
  rw [trunc32, BitVec.toNat_ofInt, Int.toNat_of_nonneg (Int.emod_nonneg _ (by norm_num))]
  rfl

/-! ### Quotient and remainder rebuild the dividend (R223 L1 to L4) -/

theorem divSigned_mul_add_remSigned : divSigned a b * b + remSigned a b = a := by
  unfold divSigned remSigned
  split
  next hzero =>
    obtain rfl : b = 0#32 := BitVec.eq_of_toInt_eq hzero
    rw [BitVec.mul_zero, BitVec.zero_add]
  next =>
    split
    next hover =>
      obtain ⟨ha, hb⟩ := hover
      obtain rfl : a = 0x80000000#32 := BitVec.eq_of_toInt_eq ha
      obtain rfl : b = 0xFFFFFFFF#32 := BitVec.eq_of_toInt_eq hb
      rfl
    next =>
      calc trunc32 (a.toInt.tdiv b.toInt) * b + trunc32 (a.toInt - b.toInt * a.toInt.tdiv b.toInt)
          = trunc32 (a.toInt.tdiv b.toInt * b.toInt + (a.toInt - b.toInt * a.toInt.tdiv b.toInt)) := by
            rw [trunc32_add, trunc32_mul, trunc32_toInt]
        _ = trunc32 a.toInt := by congr 1; ring
        _ = a := trunc32_toInt a

theorem divUnsigned_mul_add_remUnsigned : divUnsigned a b * b + remUnsigned a b = a := by
  rw [divUnsigned_eq_trunc32, remUnsigned_eq_trunc32]
  split
  next hzero =>
    obtain rfl : b = 0#32 := BitVec.eq_of_toNat_eq hzero
    rw [BitVec.mul_zero, BitVec.zero_add]
  next =>
    calc trunc32 (a.toNat / b.toNat : Nat) * b + trunc32 (a.toNat % b.toNat : Nat)
        = trunc32 ((a.toNat / b.toNat : Nat) * b.toNat + (a.toNat % b.toNat : Nat)) := by
          rw [trunc32_add, trunc32_mul, trunc32_toNat]
      _ = trunc32 a.toNat := by rw [← Nat.cast_mul, ← Nat.cast_add, Nat.div_add_mod']
      _ = a := trunc32_toNat a

theorem remUnsigned_toNat_lt {b : Word} (h : b ≠ 0#32) : (remUnsigned a b).toNat < b.toNat := by
  have hne : b.toNat ≠ 0 := fun h0 => h (BitVec.eq_of_toNat_eq h0)
  have hmod := Nat.mod_lt a.toNat (Nat.pos_of_ne_zero hne)
  have hlt := b.isLt
  rw [remUnsigned_eq_trunc32, if_neg hne, trunc32_natCast, BitVec.toNat_ofNat, Nat.mod_eq_of_lt (hmod.trans hlt)]
  exact hmod

/-- Outside the two corner cases the remainder is that of the integers, which a word holds. -/
theorem toInt_remSigned {b : Word} (h : b ≠ 0#32) (hover : ¬ (a = 0x80000000#32 ∧ b = 0xFFFFFFFF#32)) :
    (remSigned a b).toInt = a.toInt.tmod b.toInt := by
  have hne : b.toInt ≠ 0 := fun h0 => h (BitVec.eq_of_toInt_eq h0)
  have hcorner : ¬ (a.toInt = -(2 ^ 31) ∧ b.toInt = -1) := fun ⟨ha, hb⟩ =>
    hover ⟨BitVec.eq_of_toInt_eq ha, BitVec.eq_of_toInt_eq hb⟩
  have hmod : (a.toInt.tmod b.toInt).natAbs < b.toInt.natAbs := by
    rw [Int.natAbs_tmod]
    exact Nat.mod_lt _ (Int.natAbs_pos.mpr hne)
  have hb := toInt_bounds b
  rw [remSigned, if_neg hne, if_neg hcorner, ← Int.tmod_def]
  exact toInt_trunc32 (by omega) (by omega)

/-- The remainder is smaller than the divisor, and is 0 or has the sign of the dividend. -/
theorem remSigned_small {b : Word} (h : b ≠ 0#32) (hover : ¬ (a = 0x80000000#32 ∧ b = 0xFFFFFFFF#32)) :
    (remSigned a b).toInt.natAbs < b.toInt.natAbs ∧ (remSigned a b = 0#32 ∨ ((remSigned a b).toInt < 0 ↔ a.toInt < 0)) := by
  have hne : b.toInt ≠ 0 := fun h0 => h (BitVec.eq_of_toInt_eq h0)
  have hrem := toInt_remSigned a h hover
  have hsign := Int.sign_tmod a.toInt b.toInt
  rw [← hrem] at hsign
  constructor
  · rw [hrem, Int.natAbs_tmod]
    exact Nat.mod_lt _ (Int.natAbs_pos.mpr hne)
  · split at hsign
    next => exact .inl (BitVec.eq_of_toInt_eq (Int.sign_eq_zero_iff_zero.mp hsign))
    next => exact .inr (by rw [← Int.sign_eq_neg_one_iff_neg, hsign, Int.sign_eq_neg_one_iff_neg])

/-! ### The halves of a product (R223 L5 to L7, L9, L10) -/

/-- A high word that holds its quotient and the low word rebuild the product; the low word is read unsigned. -/
theorem ediv_mul_add_toNat_mulLow {p : Int} (h : mulLow a.toInt b.toInt = trunc32 p) :
    p / 2 ^ 32 * 2 ^ 32 + (mulLow a.toInt b.toInt).toNat = p := by
  rw [h, toNat_trunc32, Int.ediv_mul_add_emod]

theorem mulLow_eq_toNat_mul : mulLow a.toInt b.toInt = trunc32 (a.toNat * b.toNat) := trunc32_toInt_mul_eq_toNat_mul a b

theorem mulLow_eq_toInt_mul_toNat : mulLow a.toInt b.toInt = trunc32 (a.toInt * b.toNat) := by
  rw [mulLow_eq_toNat_mul, trunc32_mul, trunc32_mul, trunc32_toInt, trunc32_toNat]

theorem mulHigh_unsigned_rebuilds :
    (mulHigh a.toNat b.toNat).toNat * 2 ^ 32 + (mulLow a.toInt b.toInt).toNat = a.toNat * b.toNat := by
  have hlt : a.toNat * b.toNat < 2 ^ 32 * 2 ^ 32 := Nat.mul_lt_mul'' a.isLt b.isLt
  have hhigh : (mulHigh a.toNat b.toNat).toNat = a.toNat * b.toNat / 2 ^ 32 := by
    rw [mulHigh_natCast, trunc32_natCast, BitVec.toNat_ofNat, Nat.mod_eq_of_lt (Nat.div_lt_of_lt_mul hlt)]
  have hsum := ediv_mul_add_toNat_mulLow a b (mulLow_eq_toNat_mul a b)
  rw [hhigh]
  exact_mod_cast hsum

theorem mulHigh_signed_rebuilds :
    (mulHigh a.toInt b.toInt).toInt * 2 ^ 32 + (mulLow a.toInt b.toInt).toNat = a.toInt * b.toInt := by
  obtain ⟨halo, hahi⟩ := toInt_bounds a
  obtain ⟨hblo, hbhi⟩ := toInt_bounds b
  have hlo : -(2 ^ 31) * 2 ^ 32 ≤ a.toInt * b.toInt := by nlinarith
  have hhi : a.toInt * b.toInt < 2 ^ 31 * 2 ^ 32 := by nlinarith
  rw [mulHigh_eq_trunc32, toInt_trunc32 (by omega) (by omega)]
  exact ediv_mul_add_toNat_mulLow a b rfl

theorem mulHigh_mixed_rebuilds :
    (mulHigh a.toInt b.toNat).toInt * 2 ^ 32 + (mulLow a.toInt b.toInt).toNat = a.toInt * b.toNat := by
  obtain ⟨halo, hahi⟩ := toInt_bounds a
  have hb := b.isLt
  have hlo : -(2 ^ 31) * 2 ^ 32 ≤ a.toInt * b.toNat := by nlinarith
  have hhi : a.toInt * b.toNat < 2 ^ 31 * 2 ^ 32 := by nlinarith
  rw [mulHigh_eq_trunc32, toInt_trunc32 (by omega) (by omega)]
  exact ediv_mul_add_toNat_mulLow a b (mulLow_eq_toInt_mul_toNat a b)

/-- The signed reading is 2^32 below the unsigned one for a negative word. -/
theorem toInt_eq_toNat_sub : a.toInt = a.toNat - (if a.getLsbD 31 then 1 else 0) * 2 ^ 32 := by
  have hmsb : a.getLsbD 31 = a.msb := rfl
  rw [hmsb, BitVec.toInt_eq_msb_cond]
  cases a.msb <;> simp

/-- Reading a factor signed takes the other factor off the high word where the factor is negative. -/
theorem mulHigh_toInt_left (n : Int) :
    mulHigh a.toInt n = mulHigh a.toNat n - (if a.getLsbD 31 then trunc32 n else 0#32) := by
  have hsplit : a.toInt * n = a.toNat * n + -(if a.getLsbD 31 then n else 0) * 2 ^ 32 := by
    rw [toInt_eq_toNat_sub]
    split <;> ring
  rw [mulHigh_eq_trunc32, mulHigh_eq_trunc32, hsplit, Int.add_mul_ediv_right _ _ (by norm_num), trunc32_add, sub_eq_add_neg]
  split
  · rw [trunc32, trunc32, BitVec.ofInt_neg]
    rfl
  · rfl

theorem mulHigh_comm (m n : Int) : mulHigh m n = mulHigh n m := by rw [mulHigh, mul_comm, mulHigh]

theorem mulHigh_toInt_toNat : mulHigh a.toInt b.toNat = mulHigh a.toNat b.toNat - (if a.getLsbD 31 then b else 0#32) := by
  rw [mulHigh_toInt_left, trunc32_toNat]

theorem mulHigh_toInt_toInt : mulHigh a.toInt b.toInt =
    mulHigh a.toNat b.toNat - (if a.getLsbD 31 then b else 0#32) - (if b.getLsbD 31 then a else 0#32) := by
  rw [mulHigh_comm, mulHigh_toInt_left, trunc32_toInt, mulHigh_comm, mulHigh_toInt_toNat]

end Sys2Proof.Machine
end

section
/-! PROOFS. The obligations about the signed divider and about the laws of products and quotients (42_muldiv.md). -/

namespace Sys2Proof.Machine

/-- Settles O38: each writes a product's high word, a quotient or a remainder of the integers, with the two corner cases apart. -/
theorem signedDividesComplete : Obligations.SignedDividesComplete := by
  rintro s rd rs1 rs2 next a b q rfl rfl rfl rfl
  exact ⟨completesX_writeX_of_eq s rd (mulHigh_eq_trunc32 _ _), completesX_writeX_of_eq s rd (divSigned_eq_trunc32 _ _),
    completesX_writeX_of_eq s rd (remSigned_eq_trunc32 _ _)⟩

/-- Settles O39: the laws hold modulo 2^32, and the words hold the integers that they compare. -/
theorem mulDivLawsHold : Obligations.MulDivLawsHold := fun a b =>
  ⟨divSigned_mul_add_remSigned a b, divUnsigned_mul_add_remUnsigned a b, remUnsigned_toNat_lt a, remSigned_small a,
    mulHigh_unsigned_rebuilds a b, mulHigh_signed_rebuilds a b, mulHigh_mixed_rebuilds a b, mulHigh_toInt_toInt a b,
    mulHigh_toInt_toNat a b⟩

end Sys2Proof.Machine
end

section
/-! SUPPORT. `roundInt` mode by mode: which integers it can deliver, and how far from the fraction (44_fp_numerics.md R263, R264). -/

namespace Sys2Proof.Machine.Fp

section RoundInt

/-! ### The floor, the integer above it, and their distances -/

variable {x : Frac}

theorem natAbs_floor_mul_den_sub_num : ((x.num / x.den : Nat) * x.den - x.num : Int).natAbs = x.num % x.den := by
  have hdiv : ((x.num / x.den : Nat) * x.den + (x.num % x.den : Nat) : Int) = x.num := by
    exact_mod_cast Nat.div_add_mod' x.num x.den
  omega

variable {rm : RoundingMode} {s : Bool} (hden : 0 < x.den)
include hden

theorem natAbs_succ_floor_mul_den_sub_num :
    ((x.num / x.den + 1 : Nat) * x.den - x.num : Int).natAbs = x.den - x.num % x.den := by
  have hdiv : ((x.num / x.den : Nat) * x.den + (x.num % x.den : Nat) : Int) = x.num := by
    exact_mod_cast Nat.div_add_mod' x.num x.den
  have hmod := Nat.mod_lt x.num hden
  rw [Nat.cast_succ, add_mul, one_mul]
  omega

/-- Exact on an integer, and never a whole unit away. -/
theorem roundInt_within_unit (rm : RoundingMode) (s : Bool) : (x.den ∣ x.num → roundInt x rm s * x.den = x.num) ∧
    x.num < (roundInt x rm s + 1) * x.den ∧ roundInt x rm s * x.den < x.num + x.den := by
  have hdiv := Nat.div_add_mod' x.num x.den
  have hmod := Nat.mod_lt x.num hden
  obtain heq | ⟨hr, heq⟩ := roundInt_cases rm s x <;> rw [heq, Nat.dvd_iff_mod_eq_zero]
  · rw [Nat.add_one_mul]
    omega
  · simp only [Nat.add_one_mul]
    omega

/-! ### The directed modes -/

theorem roundInt_mul_le_of_roundsDown (hrm : RoundsDown rm s) : roundInt x rm s * x.den ≤ x.num :=
  (le_roundInt_iff_of_roundsDown hden hrm _).mp le_rfl

theorem le_roundInt_mul_of_roundsUp (hrm : RoundsUp rm s) : x.num ≤ roundInt x rm s * x.den := by
  have h := le_roundInt_iff_of_roundsUp hden hrm (Nat.succ_pos (roundInt x rm s))
  rw [Nat.succ_sub_one] at h
  exact not_lt.mp (mt h.mpr (Nat.not_succ_le_self _))

/-! ### The nearest modes -/

theorem roundInt_rne : roundInt x .rne s =
    if x.den < 2 * (x.num % x.den) ∨ (2 * (x.num % x.den) = x.den ∧ x.num / x.den % 2 = 1) then x.num / x.den + 1
    else x.num / x.den := by
  by_cases hr : x.num % x.den = 0
  · rw [roundInt, if_pos hr, if_neg (by omega)]
  · simp [roundInt, hr]

theorem roundInt_rmm : roundInt x .rmm s =
    if x.den ≤ 2 * (x.num % x.den) then x.num / x.den + 1 else x.num / x.den := by
  by_cases hr : x.num % x.den = 0
  · rw [roundInt, if_pos hr, if_neg (by omega)]
  · simp [roundInt, hr]

/-- To the even one on a tie. -/
theorem roundInt_rne_nearest : 2 * ((roundInt x .rne s * x.den : Int) - x.num).natAbs ≤ x.den ∧
    (2 * ((roundInt x .rne s * x.den : Int) - x.num).natAbs = x.den → roundInt x .rne s % 2 = 0) := by
  have hmod := Nat.mod_lt x.num hden
  rw [roundInt_rne hden]
  split
  next h =>
    rw [natAbs_succ_floor_mul_den_sub_num hden]
    omega
  next h =>
    rw [natAbs_floor_mul_den_sub_num]
    omega

/-- To the one above on a tie. -/
theorem roundInt_rmm_nearest : 2 * ((roundInt x .rmm s * x.den : Int) - x.num).natAbs ≤ x.den ∧
    (2 * ((roundInt x .rmm s * x.den : Int) - x.num).natAbs = x.den → x.num < roundInt x .rmm s * x.den) := by
  have hdiv := Nat.div_add_mod' x.num x.den
  have hmod := Nat.mod_lt x.num hden
  rw [roundInt_rmm hden]
  split
  next h =>
    rw [natAbs_succ_floor_mul_den_sub_num hden, Nat.add_one_mul (x.num / x.den)]
    omega
  next h =>
    rw [natAbs_floor_mul_den_sub_num]
    omega

theorem roundInt_nearest (hrm : RoundsNear rm) : 2 * ((roundInt x rm s * x.den : Int) - x.num).natAbs ≤ x.den := by
  obtain rfl | rfl := hrm
  · exact (roundInt_rne_nearest hden).1
  · exact (roundInt_rmm_nearest hden).1

end RoundInt

/-! ### Only the value counts -/

theorem roundInt_mul_right (n d : Nat) {k : Nat} (hk : 0 < k) (rm : RoundingMode) (s : Bool) :
    roundInt ⟨n * k, d * k⟩ rm s = roundInt ⟨n, d⟩ rm s := by
  have hzero : n % d * k = 0 ↔ n % d = 0 := by simp [hk.ne']
  have hlt : d * k < 2 * (n % d * k) ↔ d < 2 * (n % d) := by rw [← mul_assoc, Nat.mul_lt_mul_right hk]
  have hle : d * k ≤ 2 * (n % d * k) ↔ d ≤ 2 * (n % d) := by rw [← mul_assoc, Nat.mul_le_mul_right_iff hk]
  have heq : (2 * (n % d * k) == d * k) = (2 * (n % d) == d) := by
    rw [← mul_assoc, Bool.eq_iff_iff, beq_iff_eq, beq_iff_eq, Nat.mul_left_inj hk.ne']
  simp only [roundInt, Nat.mul_div_mul_right _ _ hk, Nat.mul_mod_mul_right, hzero, hlt, hle, heq]

theorem roundInt_congr {x y : Frac} (hx : 0 < x.den) (hy : 0 < y.den) (h : x.val = y.val) (rm : RoundingMode) (s : Bool) :
    roundInt x rm s = roundInt y rm s := by
  have hcross : x.num * y.den = y.num * x.den := (Frac.val_eq_div_iff hx y.num y.den hy).mp h
  calc roundInt x rm s = roundInt ⟨x.num * y.den, x.den * y.den⟩ rm s := (roundInt_mul_right _ _ hy rm s).symm
    _ = roundInt ⟨y.num * x.den, y.den * x.den⟩ rm s := by rw [hcross, Nat.mul_comm x.den]
    _ = roundInt y rm s := roundInt_mul_right _ _ hx rm s

end Sys2Proof.Machine.Fp
end

section
/-! SUPPORT. The integer square root (44_fp_numerics.md R276) and the largest finite magnitude (R260). -/

namespace Sys2Proof.Machine.Fp

/-- With the bits above `i` found, the root has them, and bits `i - 1 .. 0` are those that fit. -/
theorem isqrtBits_bounds (n : Nat) (i r : Nat) (hlo : r * r ≤ n) (hhi : n < (r + 2 ^ i) * (r + 2 ^ i)) :
    isqrtBits n i r * isqrtBits n i r ≤ n ∧ n < (isqrtBits n i r + 1) * (isqrtBits n i r + 1) := by
  induction i generalizing r with
  | zero => exact ⟨hlo, by simpa [isqrtBits] using hhi⟩
  | succ i ih =>
    rw [isqrtBits]
    rw [pow_succ] at hhi
    split
    next hfits => exact ih _ hfits (by rwa [Nat.add_assoc, ← Nat.mul_two])
    next hnot => exact ih _ hlo (not_le.mp hnot)

theorem isqrt_bounds {n : Nat} (hn : n < 2 ^ 340) : isqrt n * isqrt n ≤ n ∧ n < (isqrt n + 1) * (isqrt n + 1) := by
  refine isqrtBits_bounds n 170 0 (Nat.zero_le _) (lt_of_lt_of_le hn ?_)
  rw [Nat.zero_add, pow_add 2 170 170]

theorem mag_le_of_isFinite {a : Word} (h : IsFinite a) : mag a ≤ (2 ^ 24 - 1) * 2 ^ 253 := by
  obtain ⟨hnan, hinf⟩ := h
  simp only [isNaN_eq, isInf_eq, decide_eq_false_iff_not] at hnan hinf
  rw [← mag_maxf false, mag_eq, mag_eq, code_maxf]
  exact magOfCode_strictMono.monotone (by omega)

/-- The radicand of a finite number is within the reach of the integer square root. -/
theorem radicand_lt {a : Word} (h : IsFinite a) : 2 * mag a * 2 ^ 52 < 2 ^ 340 := by
  have hmag := mag_le_of_isFinite h
  rw [pow_add 2 170 170]
  omega

variable {n r k : Nat} (hlo : r * r ≤ n) (hhi : n < (r + 1) * (r + 1))
include hlo hhi

theorem mul_self_le_iff_le_root : k * k ≤ n ↔ k ≤ r := by
  constructor
  · intro h
    exact Nat.lt_succ_iff.mp (Nat.mul_self_lt_mul_self_iff.mp (h.trans_lt hhi))
  · intro h
    exact (Nat.mul_self_le_mul_self h).trans hlo

/-- The sticky bit is the one bit below the root: an even number is at most, or is, the root with it as its half is for the root. -/
theorem even_le_root_with_sticky_iff :
    ((2 * k) * (2 * k) ≤ 4 * n ↔ 2 * k ≤ 2 * r + (if r * r = n then 0 else 1)) ∧
    ((2 * k) * (2 * k) = 4 * n ↔ 2 * k = 2 * r + (if r * r = n then 0 else 1)) := by
  have hroot := mul_self_le_iff_le_root (k := k) hlo hhi
  have hsquare : (2 * k) * (2 * k) = 4 * (k * k) := by ring
  rw [hsquare]
  split
  next hexact =>
    have heq : k * k = n ↔ k = r := by rw [← hexact, Nat.mul_self_inj]
    omega
  next hinexact =>
    have hne : k * k ≠ n := by
      rintro rfl
      obtain rfl : k = r := by
        refine le_antisymm (hroot.mp le_rfl) ?_
        exact Nat.mul_self_le_mul_self_iff.mp hlo
      exact hinexact rfl
    omega

end Sys2Proof.Machine.Fp
end

section
/-! PROOFS. The obligations about rounding to an integer and about the integer square root (44_fp_numerics.md R263, R264, R276). -/

namespace Sys2Proof.Machine.Fp

/-- Settles O51: a directed mode rounds down or up by the sign; the nearest modes decide by the remainder. -/
theorem roundIntRoundsAsItsMode : Obligations.RoundIntRoundsAsItsMode := by
  intro num den s hden
  refine ⟨fun rm => roundInt_within_unit (x := ⟨num, den⟩) hden rm s, roundInt_rne_nearest (x := ⟨num, den⟩) hden,
    roundInt_mul_le_of_roundsDown (x := ⟨num, den⟩) hden (.inl rfl), ?_, ?_, roundInt_rmm_nearest (x := ⟨num, den⟩) hden⟩
  · cases s
    · exact roundInt_mul_le_of_roundsDown (x := ⟨num, den⟩) hden (.inr (.inl ⟨rfl, rfl⟩))
    · exact le_roundInt_mul_of_roundsUp (x := ⟨num, den⟩) hden (.inl ⟨rfl, rfl⟩)
  · cases s
    · exact le_roundInt_mul_of_roundsUp (x := ⟨num, den⟩) hden (.inr ⟨rfl, rfl⟩)
    · exact roundInt_mul_le_of_roundsDown (x := ⟨num, den⟩) hden (.inr (.inr ⟨rfl, rfl⟩))

/-- Settles O58: the bit by bit root is the floor, and the sticky bit stands for what is left of it. -/
theorem squareRootIsFloorWithSticky : Obligations.SquareRootIsFloorWithSticky := by
  refine ⟨fun n => isqrt_bounds, fun a k hnan hinf => ?_⟩
  obtain ⟨hlo, hhi⟩ := isqrt_bounds (radicand_lt ⟨hnan, hinf⟩)
  exact ⟨rfl, even_le_root_with_sticky_iff hlo hhi⟩

end Sys2Proof.Machine.Fp
end

section
/-! SUPPORT. `round32` between neighbours (44_fp_numerics.md R263 to R265): its code against every other code, exact values, and values
given by different fractions. -/

namespace Sys2Proof.Machine.Fp

/-! ### The significand in units of the last place -/

/-- The exponent of the last place of the result, in units of `2^-149`. -/
def lastPlace (m : Frac) : Nat := (quantum m + 149).toNat

/-- The exact magnitude in units of the last place of the result. -/
def Frac.inLastPlace (m : Frac) : Frac := ⟨m.num * 2 ^ 149, m.den * 2 ^ lastPlace m⟩

theorem two_pow_lastPlace (m : Frac) : (2 : ℚ) ^ lastPlace m = 2 ^ quantum m * 2 ^ 149 := by
  have hquantum : -149 ≤ quantum m := le_max_right ..
  rw [← zpow_natCast, lastPlace, Int.toNat_of_nonneg (by omega), zpow_add₀ two_ne_zero]
  norm_cast

theorem Frac.den_inLastPlace_pos {m : Frac} (hden : 0 < m.den) : 0 < m.inLastPlace.den := Nat.mul_pos hden (by positivity)

theorem Frac.val_inLastPlace (m : Frac) : m.inLastPlace.val = (m.scale (-quantum m)).val := by
  rw [Frac.val_scale, zpow_neg, Frac.val, Frac.val, Frac.inLastPlace, Nat.cast_mul, Nat.cast_mul, Nat.cast_pow, Nat.cast_pow,
    Nat.cast_ofNat, two_pow_lastPlace, mul_div_mul_comm, div_mul_cancel_right₀ (by positivity)]

section Neighbours

variable (s : Bool) {m : Frac} (rm : RoundingMode) (hden : 0 < m.den)

theorem significand_eq_roundInt (hden : 0 < m.den) : significand s m rm = roundInt m.inLastPlace rm s :=
  roundInt_congr (Frac.den_scale_pos hden _) (Frac.den_inLastPlace_pos hden) m.val_inLastPlace.symm rm s

variable (hnum : 0 < m.num)
include hnum hden

/-- Above the smallest exponent the magnitude fills the significand. -/
theorem two_pow_mul_le_num_of_lastPlace_pos (h : 0 < lastPlace m) : 2 ^ 23 * m.inLastPlace.den ≤ m.inLastPlace.num := by
  obtain ⟨hlow, -⟩ := Frac.floorLog2_bounds hnum hden
  have hquantum : quantum m = m.floorLog2 - 23 := by
    rw [lastPlace] at h
    rw [quantum] at h ⊢
    omega
  rw [← Frac.natCast_le_val_iff (Frac.den_inLastPlace_pos hden), Frac.val_inLastPlace, Frac.two_pow_le_val_scale_iff, hquantum]
  simpa using hlow

theorem magOfCode_roundCode_eq : magOfCode (roundCode s m rm) = significand s m rm * 2 ^ lastPlace m := by
  have h := magOfCode_roundCode s rm hnum hden
  rw [mul_assoc, ← two_pow_lastPlace] at h
  exact_mod_cast h

/-- The next code is at least one unit of the last place up. -/
theorem succ_significand_le_magOfCode_succ :
    (significand s m rm + 1) * 2 ^ lastPlace m ≤ magOfCode (roundCode s m rm + 1) := by
  have hle := significand_le s rm hnum hden
  have hor := quantum_eq_or_le_significand s rm hnum hden
  obtain hlt | hcarry := Nat.lt_or_eq_of_le hle
  · rw [roundCode, Nat.add_assoc, ← lastPlace, magOfCode_significand hlt (by rw [lastPlace]; omega)]
  · have hcode : roundCode s m rm + 1 = (lastPlace m + 1) * 2 ^ 23 + (2 ^ 23 + 1) := by
      rw [roundCode, hcarry, ← lastPlace]
      omega
    rw [hcode, magOfCode_significand (by norm_num) (.inr (by norm_num)), hcarry, pow_succ 2 (lastPlace m)]
    omega

/-- The code before is one unit of the last place down, but below a power of two, which the magnitude then reaches. -/
theorem magOfCode_pred_or {c : Nat} (hc : c + 1 = roundCode s m rm) :
    magOfCode c + 2 ^ lastPlace m = significand s m rm * 2 ^ lastPlace m ∨
      significand s m rm * m.inLastPlace.den ≤ m.inLastPlace.num := by
  have hle := significand_le s rm hnum hden
  have hor := quantum_eq_or_le_significand s rm hnum hden
  by_cases hedge : 0 < lastPlace m ∧ significand s m rm = 2 ^ 23
  · exact .inr (hedge.2 ▸ two_pow_mul_le_num_of_lastPlace_pos hden hnum hedge.1)
  · left
    have hplace : lastPlace m = 0 ∨ 2 ^ 23 < significand s m rm := by
      rw [lastPlace] at hedge ⊢
      omega
    have hpos : 0 < significand s m rm := by
      rw [roundCode, ← lastPlace] at hc
      rcases hplace with hzero | hbig
      · rw [hzero] at hc
        omega
      · omega
    have hcode : c = lastPlace m * 2 ^ 23 + (significand s m rm - 1) := by
      rw [roundCode, ← lastPlace] at hc
      omega
    rw [hcode, magOfCode_significand (by omega) (by omega), ← Nat.succ_mul, Nat.succ_eq_add_one, Nat.sub_add_cancel hpos]

/-- Every other code is a unit of the last place away from the result, or has it between itself and the magnitude. -/
theorem magOfCode_gap {c : Nat} (h : c ≠ roundCode s m rm) :
    magOfCode (roundCode s m rm) + 2 ^ lastPlace m ≤ magOfCode c ∨
    magOfCode c + 2 ^ lastPlace m ≤ magOfCode (roundCode s m rm) ∨
    (magOfCode c < magOfCode (roundCode s m rm) ∧ magOfCode (roundCode s m rm) * m.den ≤ m.num * 2 ^ 149) := by
  have hmag := magOfCode_roundCode_eq s rm hden hnum
  obtain hbelow | habove := Nat.lt_or_gt_of_ne h
  · obtain ⟨d, hd, hcd⟩ : ∃ d, d + 1 = roundCode s m rm ∧ c ≤ d := ⟨roundCode s m rm - 1, by omega, by omega⟩
    have hmono := magOfCode_strictMono.monotone hcd
    obtain hpred | hreach := magOfCode_pred_or s rm hden hnum hd
    · exact .inr (.inl (by omega))
    · refine .inr (.inr ⟨magOfCode_strictMono hbelow, ?_⟩)
      rwa [hmag, Nat.mul_right_comm, Nat.mul_assoc]
  · left
    calc magOfCode (roundCode s m rm) + 2 ^ lastPlace m = (significand s m rm + 1) * 2 ^ lastPlace m := by
          rw [hmag, Nat.succ_mul]
      _ ≤ magOfCode (roundCode s m rm + 1) := succ_significand_le_magOfCode_succ s rm hden hnum
      _ ≤ magOfCode c := magOfCode_strictMono.monotone habove

/-- The result in the terms of `roundInt`: the integer that it is, times the unit of the last place. -/
theorem magOfCode_roundCode_mul_den :
    magOfCode (roundCode s m rm) * m.den = roundInt m.inLastPlace rm s * m.inLastPlace.den := by
  rw [magOfCode_roundCode_eq s rm hden hnum, significand_eq_roundInt s rm hden, Nat.mul_right_comm, Nat.mul_assoc]
  rfl

/-- The gaps on the scale of the exact magnitude. -/
theorem magOfCode_gap_mul_den {c : Nat} (h : c ≠ roundCode s m rm) :
    magOfCode (roundCode s m rm) * m.den + m.den * 2 ^ lastPlace m ≤ magOfCode c * m.den ∨
    magOfCode c * m.den + m.den * 2 ^ lastPlace m ≤ magOfCode (roundCode s m rm) * m.den ∨
    (magOfCode c * m.den < magOfCode (roundCode s m rm) * m.den ∧ magOfCode (roundCode s m rm) * m.den ≤ m.num * 2 ^ 149) := by
  rw [Nat.mul_comm m.den, ← Nat.add_mul, ← Nat.add_mul]
  simpa only [Nat.mul_le_mul_right_iff hden, Nat.mul_lt_mul_right hden] using magOfCode_gap s rm hden hnum h

theorem roundCode_within_lastPlace :
    m.num * 2 ^ 149 < magOfCode (roundCode s m rm) * m.den + m.den * 2 ^ lastPlace m ∧
    magOfCode (roundCode s m rm) * m.den < m.num * 2 ^ 149 + m.den * 2 ^ lastPlace m := by
  obtain ⟨-, hlt, hgt⟩ := roundInt_within_unit (Frac.den_inLastPlace_pos hden) rm s
  rw [Nat.add_one_mul] at hlt
  rw [magOfCode_roundCode_mul_den s rm hden hnum]
  exact ⟨hlt, hgt⟩

/-! ### The result against every other code -/

theorem le_roundCode {c : Nat} (h : magOfCode c * m.den ≤ m.num * 2 ^ 149) : c ≤ roundCode s m rm := by
  by_contra hlt
  have hmono := Nat.mul_lt_mul_of_pos_right (magOfCode_strictMono (not_le.mp hlt)) hden
  have hgap := magOfCode_gap_mul_den s rm hden hnum (not_le.mp hlt).ne'
  have hwithin := roundCode_within_lastPlace s rm hden hnum
  omega

theorem roundCode_le {c : Nat} (h : m.num * 2 ^ 149 ≤ magOfCode c * m.den) : roundCode s m rm ≤ c := by
  by_contra hlt
  have hmono := Nat.mul_lt_mul_of_pos_right (magOfCode_strictMono (not_le.mp hlt)) hden
  have hgap := magOfCode_gap_mul_den s rm hden hnum (not_le.mp hlt).ne
  have hwithin := roundCode_within_lastPlace s rm hden hnum
  omega

variable {s rm}

theorem magOfCode_roundCode_le_of_roundsDown (hrm : RoundsDown rm s) : magOfCode (roundCode s m rm) * m.den ≤ m.num * 2 ^ 149 := by
  rw [magOfCode_roundCode_mul_den s rm hden hnum]
  exact roundInt_mul_le_of_roundsDown (Frac.den_inLastPlace_pos hden) hrm

theorem le_magOfCode_roundCode_of_roundsUp (hrm : RoundsUp rm s) : m.num * 2 ^ 149 ≤ magOfCode (roundCode s m rm) * m.den := by
  rw [magOfCode_roundCode_mul_den s rm hden hnum]
  exact le_roundInt_mul_of_roundsUp (Frac.den_inLastPlace_pos hden) hrm

/-- The distance of the code `c` from the exact magnitude. -/
def codeDistance (m : Frac) (c : Nat) : Nat := ((magOfCode c * m.den : Int) - m.num * 2 ^ 149).natAbs

theorem codeDistance_roundCode_eq (s : Bool) (rm : RoundingMode) : codeDistance m (roundCode s m rm) =
    ((roundInt m.inLastPlace rm s * m.inLastPlace.den : Int) - m.inLastPlace.num).natAbs := by
  rw [codeDistance, ← Nat.cast_mul, magOfCode_roundCode_mul_den s rm hden hnum]
  rfl

/-- In the nearest modes no code is nearer, and another one as near means a tie, half a unit of the last place away. -/
theorem codeDistance_nearest (hrm : RoundsNear rm) (c : Nat) :
    codeDistance m (roundCode s m rm) ≤ codeDistance m c ∧
    (c ≠ roundCode s m rm → codeDistance m c = codeDistance m (roundCode s m rm) →
      2 * codeDistance m (roundCode s m rm) = m.inLastPlace.den) := by
  have hnear : 2 * codeDistance m (roundCode s m rm) ≤ m.den * 2 ^ lastPlace m := by
    rw [codeDistance_roundCode_eq hden hnum]
    exact roundInt_nearest (Frac.den_inLastPlace_pos hden) hrm
  rw [show m.inLastPlace.den = m.den * 2 ^ lastPlace m from rfl]
  by_cases hc : c = roundCode s m rm
  · exact ⟨by rw [hc], fun hne => absurd hc hne⟩
  · have hgap := magOfCode_gap_mul_den s rm hden hnum hc
    unfold codeDistance at hnear ⊢
    omega

/-- On a tie RNE takes the even code. -/
theorem roundCode_even_of_tie (h : 2 * codeDistance m (roundCode s m .rne) = m.inLastPlace.den) :
    roundCode s m .rne % 2 = 0 := by
  rw [codeDistance_roundCode_eq hden hnum] at h
  have heven := (roundInt_rne_nearest (s := s) (Frac.den_inLastPlace_pos hden)).2 h
  rw [← significand_eq_roundInt s .rne hden] at heven
  rw [roundCode]
  omega

/-- On a tie RMM takes the larger magnitude. -/
theorem lt_magOfCode_roundCode_of_tie (h : 2 * codeDistance m (roundCode s m .rmm) = m.inLastPlace.den) :
    m.num * 2 ^ 149 < magOfCode (roundCode s m .rmm) * m.den := by
  rw [codeDistance_roundCode_eq hden hnum] at h
  rw [magOfCode_roundCode_mul_den s .rmm hden hnum]
  exact (roundInt_rmm_nearest (Frac.den_inLastPlace_pos hden)).2 h

end Neighbours

/-! ### Exact values -/

theorem signBit_or_code (a : Word) : signBit (sign a) ||| BitVec.ofNat 32 (code a) = a :=
  eq_of_sign_code (sign_signBit_or _ (code_lt a)) (code_signBit_or _ (code_lt a))

theorem code_lt_of_isFinite {a : Word} (h : IsFinite a) : code a < 0x7F800000 := by
  obtain ⟨hnan, hinf⟩ := h
  simp only [isNaN_eq, isInf_eq, decide_eq_false_iff_not] at hnan hinf
  omega

/-- A magnitude that a finite pattern has is delivered as it is, with no flag, in every mode. -/
theorem round32_eq_self {a : Word} (ha : IsFinite a) {m : Frac} (rm : RoundingMode) (hnum : 0 < m.num) (hden : 0 < m.den)
    (h : m.num * 2 ^ 149 = mag a * m.den) : round32 (sign a) m rm = (a, .empty) := by
  rw [mag_eq] at h
  have hcode : roundCode (sign a) m rm = code a :=
    le_antisymm (roundCode_le (sign a) rm hden hnum h.le) (le_roundCode (sign a) rm hden hnum h.ge)
  have hexact : (significand (sign a) m rm : ℚ) * 2 ^ quantum m = m.val := by
    have hmag := magOfCode_roundCode (sign a) rm hnum hden
    rw [hcode] at hmag
    rw [eq_comm, Frac.val, div_eq_iff (by positivity)]
    refine mul_right_cancel₀ (b := (2 : ℚ) ^ 149) (by positivity) ?_
    rw [mul_right_comm, ← hmag]
    exact_mod_cast h
  rw [round32_eq (sign a) rm hnum hden, hcode, if_pos (code_lt_of_isFinite ha), signBit_or_code, roundFlags, hexact]
  simp [FpFlags.inexact, FpFlags.empty]

/-! ### One value, two fractions -/

theorem floorLog2_congr {x y : Frac} (hnx : 0 < x.num) (hdx : 0 < x.den) (hny : 0 < y.num) (hdy : 0 < y.den) (h : x.val = y.val) :
    x.floorLog2 = y.floorLog2 := by
  obtain ⟨hxlo, hxhi⟩ := Frac.floorLog2_bounds hnx hdx
  obtain ⟨hylo, hyhi⟩ := Frac.floorLog2_bounds hny hdy
  rw [h] at hxlo hxhi
  have h1 := (zpow_lt_zpow_iff_right₀ (one_lt_two (α := ℚ))).mp (hxlo.trans_lt hyhi)
  have h2 := (zpow_lt_zpow_iff_right₀ (one_lt_two (α := ℚ))).mp (hylo.trans_lt hxhi)
  omega

/-- `round32` is a function of the exact magnitude, whatever fraction gives it. -/
theorem round32_congr {x y : Frac} (hnx : 0 < x.num) (hdx : 0 < x.den) (hny : 0 < y.num) (hdy : 0 < y.den) (h : x.val = y.val)
    (s : Bool) (rm : RoundingMode) : round32 s x rm = round32 s y rm := by
  have hlog := floorLog2_congr hnx hdx hny hdy h
  have hquantum : quantum x = quantum y := by rw [quantum, hlog, quantum]
  have hscale (k : Int) : roundInt (x.scale k) rm s = roundInt (y.scale k) rm s :=
    roundInt_congr (Frac.den_scale_pos hdx k) (Frac.den_scale_pos hdy k) (by rw [Frac.val_scale, Frac.val_scale, h]) rm s
  have hsig : significand s x rm = significand s y rm := by rw [significand, hquantum, hscale, significand]
  have hrounded : rounded24 s x rm = rounded24 s y rm := by
    rw [rounded24, significand24, hlog, hscale, rounded24, significand24]
  rw [round32_eq s rm hnx hdx, round32_eq s rm hny hdy, roundCode, roundCode, roundFlags, roundFlags, hquantum, hsig, hrounded, h]

end Sys2Proof.Machine.Fp
end

section
/-! SUPPORT. The result of `round32` against every finite pattern, direction by direction (44_fp_numerics.md R263 to R265). -/

namespace Sys2Proof.Machine.Fp

section Against

variable {s : Bool} {m : Frac} {rm : RoundingMode} (hnum : 0 < m.num) (hden : 0 < m.den)
include hnum hden

theorem round32_of_not_ovf_parts (hovf : ¬ (round32 s m rm).2.ovf = true) :
    isInf (round32 s m rm).1 = false ∧ mag (round32 s m rm).1 = magOfCode (roundCode s m rm) ∧
      code (round32 s m rm).1 = roundCode s m rm := by
  obtain ⟨hlt, heq⟩ := round32_of_not_ovf s rm hnum hden hovf
  have hcode : code (round32 s m rm).1 = roundCode s m rm := by rw [heq, code_signBit_or s (by omega)]
  refine ⟨?_, by rw [mag_eq, hcode], hcode⟩
  rw [isInf_eq, hcode, decide_eq_false_iff_not]
  exact hlt.ne

/-- Where the mode does not round down, the infinities are the overflows. -/
theorem isInf_round32_iff (hrm : ¬ RoundsDown rm s) :
    isInf (round32 s m rm).1 = true ↔ 2 ^ 24 ≤ roundInt (m.scale (-104)) rm s := by
  rw [← round32_ovf_iff s rm hnum hden]
  by_cases hovf : (round32 s m rm).2.ovf = true
  · refine iff_of_true ?_ hovf
    rw [round32_of_ovf s rm hnum hden hovf, overflow_of_not_roundsDown hrm, isInf_eq, code_inf]
    rfl
  · exact iff_of_false (by simp [(round32_of_not_ovf_parts hnum hden hovf).1]) hovf

variable {p : Word}

/-- The largest finite pattern that is not above the exact magnitude. -/
theorem round32_neighbour_of_roundsDown (hp : IsFinite p) (hrm : RoundsDown rm s) :
    isInf (round32 s m rm).1 = false ∧ mag (round32 s m rm).1 * m.den ≤ m.num * 2 ^ 149 ∧
      (mag p * m.den ≤ m.num * 2 ^ 149 → mag p ≤ mag (round32 s m rm).1) := by
  by_cases hovf : (round32 s m rm).2.ovf = true
  · have hbig := (overflows_iff_of_roundsDown hden hrm).mp ((round32_ovf_iff s rm hnum hden).mp hovf)
    rw [round32_of_ovf s rm hnum hden hovf, overflow_of_roundsDown hrm, mag_maxf, isInf_eq, code_maxf]
    exact ⟨rfl, by omega, fun _ => mag_le_of_isFinite hp⟩
  · obtain ⟨hinf, hmag, -⟩ := round32_of_not_ovf_parts hnum hden hovf
    rw [hmag, mag_eq p]
    exact ⟨hinf, magOfCode_roundCode_le_of_roundsDown hden hnum hrm,
      fun h => magOfCode_strictMono.monotone (le_roundCode s rm hden hnum h)⟩

/-- The smallest finite pattern that is not below the exact magnitude, or an infinity where there is none. -/
theorem round32_neighbour_of_roundsUp (hp : IsFinite p) (hrm : RoundsUp rm s) :
    (isInf (round32 s m rm).1 = false → m.num * 2 ^ 149 ≤ mag (round32 s m rm).1 * m.den) ∧
      (m.num * 2 ^ 149 ≤ mag p * m.den → isInf (round32 s m rm).1 = false ∧ mag (round32 s m rm).1 ≤ mag p) := by
  have hdown : ¬ RoundsDown rm s := by obtain ⟨rfl, rfl⟩ | ⟨rfl, rfl⟩ := hrm <;> simp
  by_cases hovf : (round32 s m rm).2.ovf = true
  · have hbig := (overflows_iff_of_roundsUp hden hrm).mp ((round32_ovf_iff s rm hnum hden).mp hovf)
    have hpmax := Nat.mul_le_mul_right m.den (mag_le_of_isFinite hp)
    have hinf := (isInf_round32_iff hnum hden hdown).mpr ((round32_ovf_iff s rm hnum hden).mp hovf)
    exact ⟨fun h => absurd hinf (by simp [h]), fun h => by omega⟩
  · obtain ⟨hinf, hmag, -⟩ := round32_of_not_ovf_parts hnum hden hovf
    rw [hmag, mag_eq p]
    exact ⟨fun _ => le_magOfCode_roundCode_of_roundsUp hden hnum hrm,
      fun h => ⟨hinf, magOfCode_strictMono.monotone (roundCode_le s rm hden hnum h)⟩⟩

/-- The nearest finite pattern, on a tie the even one or the larger one. -/
theorem round32_neighbour_of_roundsNear (hrm : RoundsNear rm) (hinf : isInf (round32 s m rm).1 = false) :
    ((mag (round32 s m rm).1 * m.den : Int) - m.num * 2 ^ 149).natAbs ≤ ((mag p * m.den : Int) - m.num * 2 ^ 149).natAbs ∧
      (mag p ≠ mag (round32 s m rm).1 →
        ((mag p * m.den : Int) - m.num * 2 ^ 149).natAbs = ((mag (round32 s m rm).1 * m.den : Int) - m.num * 2 ^ 149).natAbs →
        (rm = .rne → (round32 s m rm).1.getLsbD 0 = false) ∧ (rm = .rmm → mag p < mag (round32 s m rm).1)) := by
  have hdown : ¬ RoundsDown rm s := by obtain rfl | rfl := hrm <;> simp
  have hovf : ¬ (round32 s m rm).2.ovf = true := by
    rw [round32_ovf_iff s rm hnum hden, ← isInf_round32_iff hnum hden hdown, hinf]
    exact Bool.false_ne_true
  obtain ⟨-, hmag, hcode⟩ := round32_of_not_ovf_parts hnum hden hovf
  rw [hmag, mag_eq p]
  obtain ⟨hnear, htie⟩ := codeDistance_nearest (s := s) hden hnum hrm (code p)
  refine ⟨hnear, fun hne heq => ?_⟩
  have htie := htie (fun h => hne (by rw [h])) heq
  constructor
  · rintro rfl
    have heven := roundCode_even_of_tie hden hnum htie
    rw [← hcode, code] at heven
    rw [BitVec.getLsbD, Nat.testBit_zero, decide_eq_false_iff_not]
    omega
  · rintro rfl
    have hlt := lt_magOfCode_roundCode_of_tie hden hnum htie
    refine lt_of_le_of_ne (Nat.le_of_mul_le_mul_right ?_ hden) hne
    omega

end Against

end Sys2Proof.Machine.Fp
end

section
/-! PROOFS. The obligation about the neighbours that `round32` picks (44_fp_numerics.md R263 to R265). -/

namespace Sys2Proof.Machine.Fp

/-- Settles O53: no code lies between the result and the exact magnitude, and the codes end where the thresholds of R265 say. -/
theorem round32PicksTheRightNeighbour : Obligations.Round32PicksTheRightNeighbour := by
  rintro s num den rm _ p hnum hden rfl hp
  refine ⟨(round32_sign_code s rm hnum hden).1, round32_isNaN s rm hnum hden,
    round32_neighbour_of_roundsDown (m := ⟨num, den⟩) hnum hden hp, fun h => ?_, fun h => ?_⟩
  · have hdown : ¬ RoundsDown rm s := by obtain ⟨rfl, rfl⟩ | ⟨rfl, rfl⟩ := h <;> simp
    obtain ⟨hge, hleast⟩ := round32_neighbour_of_roundsUp (m := ⟨num, den⟩) hnum hden hp h
    exact ⟨hge, (isInf_round32_iff hnum hden hdown).trans (overflows_iff_of_roundsUp hden h), hleast⟩
  · have hdown : ¬ RoundsDown rm s := by obtain rfl | rfl := h <;> simp
    exact ⟨(isInf_round32_iff hnum hden hdown).trans (overflows_iff_of_roundsNear hden h),
      round32_neighbour_of_roundsNear (m := ⟨num, den⟩) hnum hden h⟩

end Sys2Proof.Machine.Fp
end

section
/-! SUPPORT. Where the arithmetic functions agree: one as a factor or a divisor, a zero addend, one value given by two fractions
(44_fp_numerics.md R273, R274, R277, R289). -/

namespace Sys2Proof.Machine.Fp

variable {a b c : Word} {m : RoundingMode}

theorem eq_zero_of_isZero (h : isZero a = true) : a = zero (sign a) := by
  rw [isZero_eq, decide_eq_true_iff] at h
  rw [← signBit_or_code a, h, sign_signBit_or _ (by norm_num)]
  exact BitVec.or_zero

theorem Answers.eq_of_invalid {nan snan invalid : Bool} {R : Word × FpFlags} (h : Answers nan snan invalid R) (hnan : nan = false)
    (hinv : invalid = true) : R = (cnan, .onlyNv) := by
  cases h with
  | nan hnot => exact absurd hnot (by simp [hnan])
  | invalid => rfl
  | ordinary _ hnot => exact absurd hinv (by simp [hnot])

/-! ### One -/

/-- The pattern of one. -/
def one : Word := 0x3F800000#32

@[simp] theorem sign_one : sign one = false := rfl
@[simp] theorem isNaN_one : isNaN one = false := rfl
@[simp] theorem isSNaN_one : isSNaN one = false := rfl
@[simp] theorem isInf_one : isInf one = false := rfl
@[simp] theorem isZero_one : isZero one = false := rfl
@[simp] theorem mag_one : mag one = 2 ^ 149 := rfl
@[simp] theorem num_one : num one = 2 ^ 149 := rfl

theorem isFinite_one : IsFinite one := ⟨isNaN_one, isInf_one⟩

theorem fmul32_one (ha : isNaN a = false) : fmul32 a one m = (a, .empty) := by
  cases hinf : isInf a
  · by_cases hzero : mag a = 0
    · rw [fmul32_of_mag_eq_zero ⟨ha, hinf⟩ isFinite_one (.inl hzero), sign_one, Bool.xor_false,
        ← eq_zero_of_isZero ((mag_eq_zero_iff a).mp hzero)]
    · rw [fmul32_of_mag_ne_zero ⟨ha, hinf⟩ isFinite_one hzero (by norm_num), sign_one, Bool.xor_false, mag_one]
      refine round32_eq_self ⟨ha, hinf⟩ m (Nat.mul_pos (Nat.pos_of_ne_zero hzero) (by norm_num)) (by norm_num) ?_
      rw [Nat.mul_assoc, ← pow_add]
  · rw [fmul32_of_isInf ha isNaN_one (.inl hinf) (isZero_of_isInf hinf) isZero_one, sign_one, Bool.xor_false,
      ← eq_inf_of_isInf hinf]

theorem fdiv32_one (ha : isNaN a = false) : fdiv32 a one m = (a, .empty) := by
  cases hinf : isInf a
  · by_cases hzero : mag a = 0
    · rw [fdiv32_of_mag_eq_zero ⟨ha, hinf⟩ isFinite_one hzero (by norm_num), sign_one, Bool.xor_false,
        ← eq_zero_of_isZero ((mag_eq_zero_iff a).mp hzero)]
    · rw [fdiv32_of_mag_ne_zero ⟨ha, hinf⟩ isFinite_one hzero (by norm_num), sign_one, Bool.xor_false, mag_one]
      exact round32_eq_self ⟨ha, hinf⟩ m (Nat.pos_of_ne_zero hzero) (by norm_num) rfl
  · rw [fdiv32_of_isInf_left hinf isFinite_one, sign_one, Bool.xor_false, ← eq_inf_of_isInf hinf]

/-! ### One value, two fractions -/

theorem natAbs_num (a : Word) : (num a).natAbs = mag a := by
  rw [num]
  split <;> simp

theorem roundSigned_num_mul (ha : mag a ≠ 0) (hb : mag b ≠ 0) (d : Nat) :
    roundSigned (num a * num b) d m = round32 (sign a ^^ sign b) ⟨mag a * mag b, d⟩ m := by
  have hpos : (0 : Int) < mag a * mag b := by positivity
  have hsign : decide (num a * num b < 0) = (sign a ^^ sign b) := by
    rw [num, num]
    cases sign a <;> cases sign b <;> simp <;> omega
  rw [roundSigned, hsign, Int.natAbs_mul, natAbs_num, natAbs_num]

theorem roundSigned_mul_right {v : Int} (hv : v ≠ 0) {d k : Nat} (hd : 0 < d) (hk : 0 < k) :
    roundSigned (v * k) (d * k) m = roundSigned v d m := by
  have hsign : decide (v * k < 0) = decide (v < 0) := by
    rw [decide_eq_decide]
    exact ⟨fun h => by nlinarith, fun h => by nlinarith⟩
  have hpos := Int.natAbs_pos.mpr hv
  rw [roundSigned, roundSigned, hsign, Int.natAbs_mul, Int.natAbs_natCast]
  refine round32_congr (Nat.mul_pos hpos hk) (Nat.mul_pos hd hk) hpos hd ?_ _ m
  rw [Frac.val, Frac.val]
  push_cast
  exact mul_div_mul_right _ _ (by positivity)

/-! ### The fused function with addend minus zero -/

/-- The pattern of minus zero. -/
def minusZero : Word := 0x80000000#32

theorem fma32_minusZero
    (h : isZero a = true ∨ isZero b = true → isNaN a = true ∨ isNaN b = true ∨ isInf a = true ∨ isInf b = true) :
    fma32 a b minusZero m false false = fmul32 a b m := by
  have hmul := fmul32_answers a b m
  have hfma := fma32_answers a b minusZero m false false
  cases hnan : isNaN a || isNaN b
  case true =>
    rw [hmul.eq_of_nan hnan, hfma.eq_of_nan (by grind [invalidProduct, isNaN_of_isInf, isNaN_of_isZero])]
    simp [show isSNaN minusZero = false from rfl]
  case false =>
    obtain ⟨ha, hb⟩ := Bool.or_eq_false_iff.mp hnan
    cases hinv : invalidProduct a b
    case true => rw [hmul.eq_of_invalid hnan hinv, hfma.eq_of_invalid (by simp [hinv]) (by simp [hinv])]
    case false =>
      by_cases hinf : isInf a = true ∨ isInf b = true
      · have hza : isZero a = false := by grind [invalidProduct, isInf_of_isZero]
        have hzb : isZero b = false := by grind [invalidProduct, isInf_of_isZero]
        rw [fmul32_of_isInf ha hb hinf hza hzb, fma32_of_isInf_product ha hb hinf hza hzb (.inl ⟨rfl, rfl⟩), productSign,
          Bool.xor_false]
      · have hfa : IsFinite a := ⟨ha, by simp_all⟩
        have hfb : IsFinite b := ⟨hb, by simp_all⟩
        have hza : mag a ≠ 0 := by rw [ne_eq, mag_eq_zero_iff]; simp_all
        have hzb : mag b ≠ 0 := by rw [ne_eq, mag_eq_zero_iff]; simp_all
        have hsum : fusedSum a b minusZero false false = num a * num b := by
          simp [fusedSum, show num minusZero = 0 from rfl]
        have hprod : num a * num b ≠ 0 := by
          rw [← Int.natAbs_ne_zero, Int.natAbs_mul, natAbs_num, natAbs_num]
          exact Nat.mul_ne_zero hza hzb
        rw [fma32_of_isFinite hfa hfb ⟨rfl, rfl⟩, hsum, if_neg hprod, roundSigned_num_mul hza hzb, unit_mul_unit,
          fmul32_of_mag_ne_zero hfa hfb hza hzb]

/-! ### The fused function with factor one -/

/-- Values of one sign that cancel are 0. -/
theorem num_eq_zero_of_sign_eq (hv : num a + num c = 0) (hs : sign a = sign c) : num a = 0 := by
  rw [num, num, hs] at hv
  rw [num, hs]
  split at hv <;> split <;> omega

theorem fma32_one_of_isFinite (ha : IsFinite a) (hc : IsFinite c) : fma32 a one c m false false = fadd32 a c m := by
  have hsum : fusedSum a one c false false = (num a + num c) * (unit : Nat) := by
    simp [fusedSum, unit]
    ring
  rw [fma32_of_isFinite ha isFinite_one hc, hsum]
  by_cases hv : num a + num c = 0
  · have hsign : num a * num one = 0 ∧ productSign a one false = (sign c ^^ false) ↔ sign a = sign c := by
      have hzero := num_eq_zero_of_sign_eq hv
      simp only [productSign, sign_one, num_one, Bool.xor_false]
      exact ⟨fun h => h.2, fun h => ⟨by rw [hzero h, zero_mul], h⟩⟩
    rw [hv, zero_mul, if_pos rfl, if_congr hsign rfl rfl, fadd32_of_isFinite ha hc, if_pos hv, productSign]
    simp
  · rw [if_neg (mul_ne_zero hv (by norm_num [unit])), roundSigned_mul_right hv (by norm_num [unit]) (by norm_num [unit]),
      fadd32_of_num_ne_zero ha hc hv]

theorem fma32_one : fma32 a one c m false false = fadd32 a c m := by
  have hadd := fadd32_answers a c m
  have hfma := fma32_answers a one c m false false
  have hprod : invalidProduct a one = false := by simp [invalidProduct]
  cases hnan : isNaN a || isNaN c
  case true =>
    rw [hadd.eq_of_nan hnan, hfma.eq_of_nan (by simp [hprod, hnan])]
    simp
  case false =>
    obtain ⟨ha, hc⟩ := Bool.or_eq_false_iff.mp hnan
    cases hia : isInf a <;> cases hic : isInf c
    case false.false => exact fma32_one_of_isFinite ⟨ha, hia⟩ ⟨hc, hic⟩
    case false.true =>
      rw [fma32_of_isInf_addend ⟨ha, hia⟩ isFinite_one hic, fadd32_of_isInf_right ⟨ha, hia⟩ hic, Bool.xor_false,
        ← eq_inf_of_isInf hic]
    case true.false =>
      rw [fma32_of_isInf_product ha isNaN_one (.inl hia) (isZero_of_isInf hia) isZero_one (.inl ⟨hc, hic⟩),
        fadd32_of_isInf_left hia hc (by simp [hic])]
      simp [productSign, ← eq_inf_of_isInf hia]
    case true.true =>
      by_cases hs : sign a = sign c
      · rw [fma32_of_isInf_product ha isNaN_one (.inl hia) (isZero_of_isInf hia) isZero_one (.inr ⟨hic, by simp [productSign, hs]⟩),
          fadd32_of_isInf_left hia hc (by simp [hs])]
        simp [productSign, ← eq_inf_of_isInf hia]
      · rw [hadd.eq_of_invalid hnan (by simp [hia, hic, hs]),
          hfma.eq_of_invalid (by simp [ha, hc]) (by simp [opposedInfinities, hia, hic, ha, Ne.symm hs])]

end Sys2Proof.Machine.Fp
end

section
/-! PROOFS. The obligations about exact zeros, the factor one and the fused function (44_fp_numerics.md R289). -/

namespace Sys2Proof.Machine.Fp

/-- Settles O56: an exact difference of 0 has the sign of the mode; times one, and over one, a magnitude is delivered as it is. -/
theorem subtractSelfAndMultiplyByOne : Obligations.SubtractSelfAndMultiplyByOne := by
  refine fun a m ha => ⟨fun hinf => ?_, fmul32_one ha, fdiv32_one ha⟩
  rw [fsub32_of_num_eq_zero ⟨ha, hinf⟩ ⟨ha, hinf⟩ (sub_self _), Bool.xor_self, zero, signBit]
  simp

/-- Settles O57: minus zero adds nothing to a product that is not zero, and one makes the product its other factor. -/
theorem fusedAgreesWithMultiplyAndAdd : Obligations.FusedAgreesWithMultiplyAndAdd :=
  fun _ _ _ _ h => ⟨fma32_minusZero h, fma32_one⟩

end Sys2Proof.Machine.Fp
end

section
/-! SUPPORT. Conversions to integers and back (44_fp_numerics.md R280, R281): the rounded value of a pattern, the gaps between finite
magnitudes at the ends of the integer ranges, and truncated magnitudes as patterns. -/

namespace Sys2Proof.Machine.Fp

variable {a : Word} {m : RoundingMode}

/-! ### Finite magnitudes -/

/-- Every code is a significand at an exponent. -/
theorem exists_significand (c : Nat) : ∃ j n, n < 2 ^ 24 ∧ magOfCode c = n * 2 ^ j := by
  obtain hsub | hnorm := Nat.lt_or_ge c (2 ^ 23)
  · exact ⟨0, c, by omega, by simpa using magOfCode_significand (j := 0) (n := c) (by omega) (.inl rfl)⟩
  · refine ⟨c / 2 ^ 23 - 1, c % 2 ^ 23 + 2 ^ 23, by omega, ?_⟩
    rw [← magOfCode_significand (by omega) (.inr (by omega))]
    congr 1
    omega

/-- Every significand at an exponent has a code. -/
theorem exists_magOfCode_eq {n : Nat} (hn : n < 2 ^ 24) (j : Nat) : ∃ c, magOfCode c = n * 2 ^ j := by
  induction j generalizing n with
  | zero => exact ⟨n, by simpa using magOfCode_significand (j := 0) (n := n) hn.le (.inl rfl)⟩
  | succ j ih =>
    obtain hsmall | hbig := Nat.lt_or_ge n (2 ^ 23)
    · obtain ⟨c, hc⟩ := ih (n := 2 * n) (by omega)
      exact ⟨c, by rw [hc, pow_succ]; ring⟩
    · exact ⟨(j + 1) * 2 ^ 23 + n, magOfCode_significand hn.le (.inr hbig)⟩

/-- Below a power of two the next magnitude is half a unit of its last place down. -/
theorem mag_le_of_lt_two_pow {j : Nat} (h : mag a < 2 ^ 23 * 2 ^ (j + 1)) : mag a ≤ (2 ^ 24 - 1) * 2 ^ j := by
  have hpow := magOfCode_significand (j := j + 1) (n := 2 ^ 23) (by norm_num) (.inr le_rfl)
  have hpred := magOfCode_significand (j := j) (n := 2 ^ 24 - 1) (by norm_num) (.inr (by norm_num))
  rw [mag_eq, ← hpow, magOfCode_strictMono.lt_iff_lt] at h
  rw [mag_eq, ← hpred]
  exact magOfCode_strictMono.monotone (by omega)

/-- Above a power of two the next magnitude is a unit of its last place up. -/
theorem le_mag_of_two_pow_lt {j : Nat} (h : 2 ^ 23 * 2 ^ j < mag a) : (2 ^ 23 + 1) * 2 ^ j ≤ mag a := by
  have hpow := magOfCode_significand (j := j) (n := 2 ^ 23) (by norm_num) (.inr le_rfl)
  have hsucc := magOfCode_significand (j := j) (n := 2 ^ 23 + 1) (by norm_num) (.inr (by norm_num))
  rw [mag_eq, ← hpow, magOfCode_strictMono.lt_iff_lt] at h
  rw [mag_eq, ← hsucc]
  exact magOfCode_strictMono.monotone (by omega)

theorem num_le_of_lt_two_pow {j : Nat} (h : num a < 2 ^ 23 * 2 ^ (j + 1)) : num a ≤ (2 ^ 24 - 1) * 2 ^ j := by
  rw [num] at h ⊢
  split at h
  next hs =>
    rw [if_pos hs]
    exact (neg_nonpos.mpr (Int.natCast_nonneg _)).trans (by positivity)
  next hs =>
    have hmag := mag_le_of_lt_two_pow (a := a) (j := j) (by exact_mod_cast h)
    rw [if_neg hs]
    zify at hmag
    omega

theorem num_le_of_lt_neg_two_pow {j : Nat} (h : num a < -(2 ^ 23 * 2 ^ j)) : num a ≤ -((2 ^ 23 + 1) * 2 ^ j) := by
  rw [num] at h ⊢
  split at h
  next hs =>
    rw [if_pos hs, neg_le_neg_iff]
    exact_mod_cast le_mag_of_two_pow_lt (by exact_mod_cast neg_lt_neg_iff.mp h)
  next hs =>
    have hneg : -(2 ^ 23 * 2 ^ j : Int) ≤ 0 := neg_nonpos.mpr (by positivity)
    omega

/-- A finite magnitude rounded down to an integer is a finite magnitude: it has no more significant bits. -/
theorem exists_isFinite_truncation (ha : IsFinite a) (s : Bool) :
    ∃ w, IsFinite w ∧ sign w = s ∧ mag w = mag a / 2 ^ 149 * 2 ^ 149 := by
  obtain ⟨c, hc⟩ : ∃ c, magOfCode c = mag a / 2 ^ 149 * 2 ^ 149 := by
    obtain hsmall | hbig := Nat.lt_or_ge (mag a / 2 ^ 149) (2 ^ 24)
    · exact exists_magOfCode_eq hsmall 149
    · obtain ⟨j, n, hn, hcode⟩ := exists_significand (code a)
      rw [← mag_eq] at hcode
      have hj : 149 ≤ j := by
        by_contra hlt
        have hle : n * 2 ^ j ≤ n * 2 ^ 148 := Nat.mul_le_mul_left n (Nat.pow_le_pow_right (by norm_num) (by omega))
        omega
      have hdvd : 2 ^ 149 ∣ mag a := hcode ▸ (Nat.pow_dvd_pow 2 hj).mul_left n
      exact ⟨code a, by rw [← mag_eq, Nat.div_mul_cancel hdvd]⟩
  have hlt : c < 0x7F800000 := by
    have hle : magOfCode c ≤ magOfCode (code a) := by
      rw [hc, ← mag_eq]
      exact Nat.div_mul_le_self _ _
    exact (magOfCode_strictMono.le_iff_le.mp hle).trans_lt (code_lt_of_isFinite ha)
  have hcode := code_signBit_or s (c := c) (by omega)
  refine ⟨signBit s ||| BitVec.ofNat 32 c, ⟨?_, ?_⟩, sign_signBit_or s (by omega), by rw [mag_eq, hcode, hc]⟩
  · rw [isNaN_eq, hcode, decide_eq_false_iff_not]
    omega
  · rw [isInf_eq, hcode, decide_eq_false_iff_not]
    omega

/-! ### The rounded value -/

/-- The integer that a finite pattern rounds to (R280). -/
def roundedValue (a : Word) (m : RoundingMode) : Int :=
  if sign a then -(roundInt ⟨mag a, unit⟩ m (sign a) : Int) else roundInt ⟨mag a, unit⟩ m (sign a)

/-- How a magnitude, in units of `2^-149`, is rounded to the integer `k`, by the mode. -/
theorem roundInt_mag (a : Word) (m : RoundingMode) (s : Bool) {k : Nat} (hk : roundInt ⟨mag a, unit⟩ m s = k) :
    mag a < k * 2 ^ 149 + 2 ^ 149 ∧ k * 2 ^ 149 < mag a + 2 ^ 149 ∧ (RoundsDown m s → k * 2 ^ 149 ≤ mag a) ∧
    (RoundsUp m s → mag a ≤ k * 2 ^ 149) ∧ (RoundsNear m → 2 * ((k : Int) * 2 ^ 149 - mag a).natAbs ≤ 2 ^ 149) ∧
    (m = .rne → 2 * ((k : Int) * 2 ^ 149 - mag a).natAbs = 2 ^ 149 → k % 2 = 0) ∧
    (m = .rmm → 2 * ((k : Int) * 2 ^ 149 - mag a).natAbs = 2 ^ 149 → mag a < k * 2 ^ 149) := by
  have hden : 0 < (⟨mag a, unit⟩ : Frac).den := by norm_num [unit]
  obtain ⟨-, hlt, hgt⟩ := roundInt_within_unit hden m s
  rw [Nat.add_one_mul] at hlt
  subst hk
  refine ⟨hlt, hgt, roundInt_mul_le_of_roundsDown hden, le_roundInt_mul_of_roundsUp hden, roundInt_nearest hden, ?_, ?_⟩
  · rintro rfl
    exact (roundInt_rne_nearest hden).2
  · rintro rfl
    exact (roundInt_rmm_nearest hden).2

/-- The rounded value is less than a unit away. -/
theorem roundedValue_within_unit (a : Word) (m : RoundingMode) :
    num a < (roundedValue a m + 1) * 2 ^ 149 ∧ roundedValue a m * 2 ^ 149 < num a + 2 ^ 149 := by
  obtain ⟨hlt, hgt, -⟩ := roundInt_mag a m (sign a) rfl
  rw [num, roundedValue]
  split <;> omega

/-- The mode acts on the magnitude by the sign as it acts on the value. -/
theorem roundedInt_roundedValue (a : Word) (m : RoundingMode) : RoundedInt m (num a) (roundedValue a m) := by
  obtain ⟨hlt, hgt, hdown, hup, hnear, hrne, hrmm⟩ := roundInt_mag a m (sign a) rfl
  rw [num, roundedValue]
  generalize roundInt ⟨mag a, unit⟩ m (sign a) = k at *
  cases hs : sign a <;> simp only [hs, Bool.false_eq_true, if_true, if_false] at hdown hup ⊢
  case false =>
    refine ⟨fun h => ?_, fun h => ?_, fun h => ?_, hnear, fun h => ?_, fun h => ?_⟩
    · have hle := hdown (.inl h)
      rw [Int.tdiv_eq_ediv_of_nonneg (by omega)]
      omega
    · have hle := hdown (.inr (.inl ⟨h, rfl⟩))
      omega
    · have hge := hup (.inr ⟨h, rfl⟩)
      omega
    · have htie := hrne h
      omega
    · have htie := hrmm h
      omega
  case true =>
    refine ⟨fun h => ?_, fun h => ?_, fun h => ?_, fun h => ?_, fun h => ?_, fun h => ?_⟩
    · have hle := hdown (.inl h)
      rw [Int.neg_tdiv, Int.tdiv_eq_ediv_of_nonneg (by omega)]
      omega
    · have hge := hup (.inl ⟨h, rfl⟩)
      omega
    · have hle := hdown (.inr (.inr ⟨h, rfl⟩))
      omega
    · have hle := hnear h
      omega
    · have htie := hrne h
      omega
    · have htie := hrmm h
      omega

/-- A value rounds to one integer: two that are as near are a unit apart, and the tie has one answer. -/
theorem roundedInt_unique {v n k : Int} (hn : RoundedInt m v n) (hk : RoundedInt m v k) : n = k := by
  obtain ⟨hn1, hn2, hn3, hn4, hn5, hn6⟩ := hn
  obtain ⟨hk1, hk2, hk3, hk4, hk5, hk6⟩ := hk
  cases m with
  | rtz => rw [hn1 rfl, hk1 rfl]
  | rdn => rw [hn2 rfl, hk2 rfl]
  | rup => rw [hn3 rfl, hk3 rfl]
  | rne =>
    have hnn := hn4 (.inl rfl)
    have hnk := hk4 (.inl rfl)
    have htn := hn5 rfl
    have htk := hk5 rfl
    omega
  | rmm =>
    have hnn := hn4 (.inr rfl)
    have hnk := hk4 (.inr rfl)
    have htn := hn6 rfl
    have htk := hk6 rfl
    omega

/-! ### Extended values -/

theorem ext_of_isFinite (ha : IsFinite a) : ext a = num a := by
  rw [ext, ha.2]
  rfl

/-- The infinities lie far beyond the integer ranges. -/
theorem isFinite_of_ext_lt (hnan : isNaN a = false) (hlo : -(2 ^ 200) < ext a) (hhi : ext a < 2 ^ 200) : IsFinite a := by
  refine ⟨hnan, ?_⟩
  by_contra hinf
  rw [Bool.not_eq_false] at hinf
  have hbig : (2 : Int) ^ 200 ≤ 2 ^ 278 := pow_le_pow_right₀ (by norm_num) (by norm_num)
  rw [ext, hinf] at hlo hhi
  generalize (2 : Int) ^ 278 = big at *
  cases hs : sign a <;> simp [hs] at hlo hhi <;> omega

/-! ### Conversion to an integer range (R280) -/

section Range

variable {lo hi : Int}

theorem inexact_eq_nxIf (n v : Int) : FpFlags.inexact (n * unit != v) false = nxIf (decide (n * 2 ^ 149 ≠ v)) := by
  have hne : (n * unit != v) = decide (n * 2 ^ 149 ≠ v) := by
    rw [Bool.eq_iff_iff, bne_iff_ne, decide_eq_true_iff]
    rfl
  rw [hne, FpFlags.inexact, Bool.and_false, nxIf]

theorem fcvtInt_of_isFinite (ha : IsFinite a) : fcvtInt a m lo hi =
    if roundedValue a m < lo then (BitVec.ofInt 32 lo, .onlyNv)
    else if hi < roundedValue a m then (BitVec.ofInt 32 hi, .onlyNv)
    else (BitVec.ofInt 32 (roundedValue a m), nxIf (decide (roundedValue a m * 2 ^ 149 ≠ num a))) := by
  rw [fcvtInt, ha.1, ha.2]
  simp only [Bool.false_eq_true, if_false, inexact_eq_nxIf]
  rfl

theorem fcvtInt_of_roundedValue_mem (ha : IsFinite a) (hlo : lo ≤ roundedValue a m) (hhi : roundedValue a m ≤ hi) :
    fcvtInt a m lo hi = (trunc32 (roundedValue a m), nxIf (decide (roundedValue a m * 2 ^ 149 ≠ num a))) := by
  rw [fcvtInt_of_isFinite ha, if_neg (not_lt.mpr hlo), if_neg (not_lt.mpr hhi), trunc32]

theorem fcvtInt_of_isNaN (ha : isNaN a = true) : fcvtInt a m lo hi = (BitVec.ofInt 32 hi, .onlyNv) := by
  simp [fcvtInt, ha]

/-- Below the range: minus infinity, or a value that rounds below it. -/
theorem fcvtInt_of_below (hnan : isNaN a = false) (hs : sign a = true) (h : IsFinite a → roundedValue a m < lo) :
    fcvtInt a m lo hi = (BitVec.ofInt 32 lo, .onlyNv) := by
  cases hinf : isInf a
  · rw [fcvtInt_of_isFinite ⟨hnan, hinf⟩, if_pos (h ⟨hnan, hinf⟩)]
  · simp [fcvtInt, hnan, hinf, hs]

/-- Above the range: plus infinity, or a value that rounds above it. -/
theorem fcvtInt_of_above (hnan : isNaN a = false) (hs : sign a = false) (hrange : lo ≤ hi)
    (h : IsFinite a → hi < roundedValue a m) : fcvtInt a m lo hi = (BitVec.ofInt 32 hi, .onlyNv) := by
  cases hinf : isInf a
  · rw [fcvtInt_of_isFinite ⟨hnan, hinf⟩, if_neg (not_lt.mpr (hrange.trans (h ⟨hnan, hinf⟩).le)), if_pos (h ⟨hnan, hinf⟩)]
  · simp [fcvtInt, hnan, hinf, hs]

end Range

theorem sign_of_ext_pos (h : 0 < ext a) : sign a = false := by
  by_contra hs
  have hle := ext_nonpos (a := a) (by simpa using hs)
  omega

theorem sign_of_ext_neg (h : ext a < 0) : sign a = true := by
  by_contra hs
  have hle := ext_nonneg (a := a) (by simpa using hs)
  omega

/-! ### FCVT.W.S and FCVT.WU.S -/

section Ranges

variable (hnan : isNaN a = false)
include hnan

theorem fcvtW32_of_ge (h : 2 ^ 31 * 2 ^ 149 ≤ ext a) : fcvtW32 a m = (0x7FFFFFFF#32, .onlyNv) :=
  fcvtInt_of_above hnan (sign_of_ext_pos (by omega)) (by norm_num) fun ha => by
    rw [ext_of_isFinite ha] at h
    have hwithin := roundedValue_within_unit a m
    omega

theorem fcvtW32_of_lt (h : ext a < -(2 ^ 31 * 2 ^ 149)) : fcvtW32 a m = (0x80000000#32, .onlyNv) :=
  fcvtInt_of_below hnan (sign_of_ext_neg (by omega)) fun ha => by
    rw [ext_of_isFinite ha] at h
    have hgap := num_le_of_lt_neg_two_pow (a := a) (j := 157) (by omega)
    have hwithin := roundedValue_within_unit a m
    omega

theorem fcvtW32_of_mem (hlo : -(2 ^ 31 * 2 ^ 149) ≤ ext a) (hhi : ext a < 2 ^ 31 * 2 ^ 149) :
    RoundedInt m (num a) (fcvtW32 a m).1.toInt ∧
      (fcvtW32 a m).2 = nxIf (decide ((fcvtW32 a m).1.toInt * 2 ^ 149 ≠ num a)) := by
  have ha := isFinite_of_ext_lt hnan (by omega) (by omega)
  rw [ext_of_isFinite ha] at hlo hhi
  have hgap := num_le_of_lt_two_pow (a := a) (j := 156) (by omega)
  have hwithin := roundedValue_within_unit a m
  rw [fcvtW32, fcvtInt_of_roundedValue_mem ha (by omega) (by omega), toInt_trunc32 (by omega) (by omega)]
  exact ⟨roundedInt_roundedValue a m, rfl⟩

theorem fcvtWu32_of_ge (h : 2 ^ 32 * 2 ^ 149 ≤ ext a) : fcvtWu32 a m = (0xFFFFFFFF#32, .onlyNv) :=
  fcvtInt_of_above hnan (sign_of_ext_pos (by omega)) (by norm_num) fun ha => by
    rw [ext_of_isFinite ha] at h
    have hwithin := roundedValue_within_unit a m
    omega

theorem fcvtWu32_of_le (h : ext a ≤ -(2 ^ 149)) : fcvtWu32 a m = (0#32, .onlyNv) :=
  fcvtInt_of_below hnan (sign_of_ext_neg (by omega)) fun ha => by
    rw [ext_of_isFinite ha] at h
    have hwithin := roundedValue_within_unit a m
    omega

/-- Between -1 and 0 the value rounds to one of the two. -/
theorem fcvtWu32_of_neg_fraction (hlo : -(2 ^ 149) < ext a) (hhi : ext a < 0) :
    fcvtWu32 a m = (0#32, if RoundedInt m (num a) (-1) then .onlyNv else nxIf true) := by
  have ha := isFinite_of_ext_lt hnan (by omega) (by omega)
  rw [ext_of_isFinite ha] at hlo hhi
  have hwithin := roundedValue_within_unit a m
  have hrounded := roundedInt_roundedValue a m
  obtain hneg | hzero : roundedValue a m = -1 ∨ roundedValue a m = 0 := by omega
  · rw [hneg] at hrounded
    rw [if_pos hrounded, fcvtWu32, fcvtInt_of_isFinite ha, if_pos (by omega)]
    rfl
  · have hnot : ¬ RoundedInt m (num a) (-1) := fun h => by
      have heq := roundedInt_unique h hrounded
      omega
    rw [if_neg hnot, fcvtWu32, fcvtInt_of_roundedValue_mem ha (by omega) (by omega), hzero, zero_mul, decide_eq_true hhi.ne']
    rfl

theorem fcvtWu32_of_mem (hlo : 0 ≤ ext a) (hhi : ext a < 2 ^ 32 * 2 ^ 149) :
    RoundedInt m (num a) (fcvtWu32 a m).1.toNat ∧
      (fcvtWu32 a m).2 = nxIf (decide (((fcvtWu32 a m).1.toNat : Int) * 2 ^ 149 ≠ num a)) := by
  have ha := isFinite_of_ext_lt hnan (by omega) (by omega)
  rw [ext_of_isFinite ha] at hlo hhi
  have hgap := num_le_of_lt_two_pow (a := a) (j := 157) (by omega)
  have hwithin := roundedValue_within_unit a m
  have hnat : ((trunc32 (roundedValue a m)).toNat : Int) = roundedValue a m := by
    rw [toNat_trunc32, Int.emod_eq_of_lt (by omega) (by omega)]
  rw [fcvtWu32, fcvtInt_of_roundedValue_mem ha (by omega) (by omega), hnat]
  exact ⟨roundedInt_roundedValue a m, rfl⟩

end Ranges

/-! ### There and back (R281, R289 L8) -/

/-- An integer that is a truncated finite value converts back exactly. -/
theorem fcvtSW_trunc32 (ha : IsFinite a) {n : Int} (hlo : -(2 ^ 31) ≤ n) (hhi : n < 2 ^ 31)
    (hn : n.natAbs = mag a / 2 ^ 149) (m : RoundingMode) :
    num (fcvtSW (trunc32 n) m).1 = n * 2 ^ 149 ∧ (fcvtSW (trunc32 n) m).2 = .empty := by
  rw [fcvtSW, toInt_trunc32 hlo hhi]
  by_cases hzero : n = 0
  · rw [if_pos hzero, hzero]
    exact ⟨rfl, rfl⟩
  · obtain ⟨w, hw, hsign, hmag⟩ := exists_isFinite_truncation ha (decide (n < 0))
    rw [← hn] at hmag
    rw [if_neg hzero, roundSigned, ← hsign, round32_eq_self hw m (Int.natAbs_pos.mpr hzero) Nat.one_pos (by rw [hmag, Nat.mul_one])]
    refine ⟨?_, rfl⟩
    rw [num, hsign, hmag]
    obtain hneg | hpos := lt_or_ge n 0
    · rw [if_pos (decide_eq_true hneg)]
      omega
    · rw [if_neg (by simpa using hpos)]
      omega

theorem roundedValue_rtz (a : Word) : roundedValue a .rtz = (num a).tdiv (2 ^ 149) := (roundedInt_roundedValue a .rtz).1 rfl

theorem natAbs_roundedValue_rtz (a : Word) : (roundedValue a .rtz).natAbs = mag a / 2 ^ 149 := by
  rw [roundedValue_rtz, Int.natAbs_tdiv, natAbs_num]
  rfl

end Sys2Proof.Machine.Fp
end

section
/-! PROOFS. The obligation about the conversions to integers and back (44_fp_numerics.md R280, R289). -/

namespace Sys2Proof.Machine.Fp

/-- Settles O60: a value rounds within a unit, and at the ends of the integer ranges finite values are further apart than that. -/
theorem conversionsSaturateAndRoundTrip : Obligations.ConversionsSaturateAndRoundTrip := by
  rintro a m _ rfl
  refine ⟨fun hnan => ⟨fcvtInt_of_isNaN hnan, fcvtInt_of_isNaN hnan⟩, fun hnan => ?_, fun hnan hinf hlo hhi => ?_⟩
  · exact ⟨fcvtW32_of_ge hnan, fcvtW32_of_lt hnan, fcvtW32_of_mem hnan, fcvtWu32_of_ge hnan, fcvtWu32_of_le hnan,
      fcvtWu32_of_neg_fraction hnan, fcvtWu32_of_mem hnan⟩
  · rw [← roundedValue_rtz] at hlo hhi ⊢
    have hback := fcvtSW_trunc32 ⟨hnan, hinf⟩ hlo (by omega) (natAbs_roundedValue_rtz a) m
    rw [fcvtW32, fcvtInt_of_roundedValue_mem ⟨hnan, hinf⟩ hlo hhi]
    exact ⟨toInt_trunc32 hlo (by omega), hback⟩

end Sys2Proof.Machine.Fp
end
